-- ==== Sys2Proof/Word.lean ====
section
/-! DEFINITION. The words of the 7340's interface and the closed sets of names the manual uses. Bit vectors stand
only for what the manual treats as bits: bytes on the link, the wrapping 48-bit link time, masks and 32-bit details. -/

namespace Sys2Proof

/-- One byte on the chain (section 1.2). -/
abbrev Byte := BitVec 8

/-- A link time: a U48 value that wraps after 2^48 ticks (R3). -/
abbrev Time := BitVec 48

/-- A raw axis, 0 … 5. -/
abbrev AxisId := Fin 6

/-- An environment group, 0 … 3. -/
abbrev GroupId := Fin 4

/-- A trigger source, 0 … 12: marker sources 0 … 7, compare slots 8 … 11, manual capture 12 (R128). -/
abbrev SourceId := Fin 13

/-- The axis states of R57. -/
inductive AxisState where
  | off | acquire | free | referenced | slipped | lost
  deriving DecidableEq, Repr

/-- The three zero states of R102, without the entry that RESOLVING names. -/
inductive ZeroPhase where
  | none | waiting | resolving
  deriving DecidableEq, Repr

/-- The kind of the last zero or preset applied (R102). -/
inductive RefKind where
  | none | zero | preset
  deriving DecidableEq, Repr

/-- The outcomes of a calibration (R115). -/
inductive CalOutcome where
  | none | running | installed | rejected | timeout | aborted
  deriving DecidableEq, Repr

/-- The capture states of R133. -/
inductive CaptureState where
  | stopped | armed | halted
  deriving DecidableEq, Repr

/-- The trigger kinds of R128, in the order of their codes (R7). -/
inductive TriggerKind where
  | edge | reference | timed | manual
  deriving DecidableEq, Repr

/-- The polarity of a trigger (R128): TIMED and MANUAL triggers have none. -/
inductive Polarity where
  | rise | fall | none
  deriving DecidableEq, Repr

/-- The statuses an axis entry of a capture record can carry, in the order of their codes (R7). -/
inductive FieldStatus where
  | ok | relative | unsure | fallback | late | timeout | off
  deriving DecidableEq, Repr

/-- The status codes of a RESPONSE frame, in the order of their codes (R7). -/
inductive Status where
  | done | started | busy | full | refusedState | refusedRange | refusedConflict | refusedOrder | denied | unknown
  deriving DecidableEq, Repr

/-- The reset causes that IDENTIFY reports, in the order of their codes (R185). -/
inductive ResetCause where
  | powerOn | pin | supplyDip | fullRequest | restartRequest
  deriving DecidableEq, Repr

/-- The 23 error kinds of R189, in the order of their numbers 1 … 23. -/
inductive ErrorKind where
  | frameCheck | chainDegraded | forwardOverrun | chainDown | linkTime | manageOverrun | periodMismatch
  | slipJump | slipGap | signalDegraded | overspeed | axisLost | headSilent | envStale | envClamped
  | referenceUnsure | calibrationRejected | pendingFull | captureLate | captureTimeout | queueOverflow
  | compareMissed | positionSaturated
  deriving DecidableEq, Repr

/-- The two attention sources of R195. -/
inductive AttentionSource where
  | operationEnded | queueWatermark
  deriving DecidableEq, Repr

/-- The events of R197 that a block can report, in the order of their numbers 1 … 27 (0 is NEVER). -/
inductive Event where
  | always | goodFramesIn | badFrames | framesForwarded | framesInserted | cycleFrames | samplesAccepted
  | weakSamples | staleSamples | triggersTaken | triggersDropped | entriesCompleted | recordsQueued
  | outsideWindow | gapWindow | masked | doubleEdges | recordsDropped | samplesDiscarded | recordsTransmitted
  | environmentValues | compareFires | managementRequests | managementRefusals | slips | discardedByStop
  | recordsFlushed
  deriving DecidableEq, Repr

/-- The eight blocks of the part, one Axis Engine per raw axis. A raise, a report and an attention source carry the
block that made them: FMN takes what one block made in the order it was made, and what different blocks made in
either order (R190, R195, R197). -/
inductive Block where
  | cpt | sfl | axe (a : AxisId) | scu | cap | rqu | mga | fmn
  deriving DecidableEq, Repr

end Sys2Proof
end

