-- ==== Sys2Proof/Config.lean ====
section
/-! DEFINITION. What the manual leaves open (opaque constants, with no value in the model) and the fixed sizes it
states. No proof can see the value of an opaque constant. -/

namespace Sys2Proof.Config

/-- FREE VALUE (log 3). R179 gives each state one byte in AXIS STATUS and no rule states the code of an axis state. -/
opaque axisStateCode : AxisState → Byte

/-- FREE VALUE (log 3). No rule states the code of a zero state in AXIS STATUS. -/
opaque zeroStateCode : ZeroPhase → Byte

/-- FREE VALUE (log 3). No rule states the code of a reference kind in AXIS STATUS. -/
opaque refKindCode : RefKind → Byte

/-- FREE VALUE (log 3). No rule states the code of a calibration outcome in AXIS STATUS. -/
opaque outcomeCode : CalOutcome → Byte

/-- FREE VALUE (log 4). The 2 bytes AXIS STATUS sends for a result coefficient that does not fit 2 bytes, as a G'
rejected by test 3 of R122 may not. -/
opaque wideCoefficient : Int → BitVec 16

/-- FREE VALUE (log 40). The count of R140 for a bracket whose two entries, of these counts, have one time that is not the
trigger time: its quotient is then over a time difference of 0. R140 still says that it lies between the two. -/
opaque spanlessCount : Int → Int → Int

/-- FREE VALUE (log 38). The 4-byte detail of COMPARE_MISSED for a number of skipped firings above 2^32 − 1: R131 and R189
give that number as the detail and no limit or truncation. -/
opaque wideMissed : Nat → BitVec 32

/-- FREE VALUE (log 5). Whether FMN takes the tainting raises that are on their way before the completion query that CAP
makes or right after it (R194: either order); one bit for each query, numbered by `State.freeIndex`. -/
opaque raiseTakenFirst : Nat → Bool

/-- The limit of every count, length, position and angle: 2^47 − 1. -/
def limit48 : Int := 140737488355327

/-- The queue limits: forward queue (R13), response list (R14), intake (R174), history ring (R71), pending list
(R137), record queue (R160). -/
def forwardDepth : Nat := 8
def responseDepth : Nat := 4
def intakeDepth : Nat := 4
def ringDepth : Nat := 64
def pendingDepth : Nat := 16
def recordDepth : Nat := 128

/-- Good frames per decay of the link-error bucket (R9). -/
def linkDecayInterval : Nat := 1000

/-- IDENTIFY's vendor code, part number and revision (R185). -/
def vendorCode : Nat := 0x5A31
def partNumber : Nat := 7340
def revision : Nat := 1

end Sys2Proof.Config
end

