-- ==== Sys2Proof/Machine/Frames.lean ====
section
/-! DEFINITION. Bytes, byte order, the cyclic check and the frame layouts of chapter 1 (R4 to R7). -/

namespace Sys2Proof.Machine

/-- The low n bytes of x, least significant first (Introduction, Numbering). -/
def leBytes : Nat → Nat → List Byte
  | 0, _ => []
  | n + 1, x => BitVec.ofNat 8 x :: leBytes n (x / 256)

/-- The n bytes of a signed value in two's complement, least significant first. -/
def leInt (n : Nat) (z : Int) : List Byte :=
  leBytes n (z % 256 ^ n).toNat

/-- The value of bytes read least significant first (R4). -/
def leNat : List Byte → Nat
  | [] => 0
  | b :: bs => b.toNat + 256 * leNat bs

/-- The unsigned field of `size` bytes at `off`. -/
def field (bs : List Byte) (off size : Nat) : Nat :=
  leNat ((bs.drop off).take size)

/-- A value of `bits` bits read as two's complement. -/
def asSigned (bits x : Nat) : Int :=
  if x < 2 ^ (bits - 1) then x else (x : Int) - 2 ^ bits

/-- The signed field of `size` bytes at `off`. -/
def signedField (bs : List Byte) (off size : Nat) : Int :=
  asSigned (8 * size) (field bs off size)

/-- The U48 link time at `off`. -/
def timeField (bs : List Byte) (off : Nat) : Time :=
  BitVec.ofNat 48 (field bs off 6)

/-- A flag as a byte: 0 off, 1 on (R184). -/
def flagByte (b : Bool) : Byte :=
  if b then 1 else 0

/-- One shift of the check register toward its least significant end (R5). -/
def crcShift (r : BitVec 32) : BitVec 32 :=
  if r.getLsbD 0 then (r >>> 1) ^^^ 0xEDB88320#32 else r >>> 1

/-- n shifts of the check register. -/
def crcShifts : Nat → BitVec 32 → BitVec 32
  | 0, r => r
  | n + 1, r => crcShifts n (crcShift r)

/-- One byte combined into the check register (R5). -/
def crcByte (r : BitVec 32) (b : Byte) : BitVec 32 :=
  crcShifts 8 (r ^^^ b.setWidth 32)

/-- The check over header and payload, in link order (R5). -/
def crc32 (bs : List Byte) : BitVec 32 :=
  ~~~(bs.foldl crcByte 0xFFFFFFFF#32)

/-- A header and payload followed by its fresh check trailer (R5). -/
def sealFrame (body : List Byte) : List Byte :=
  body ++ leBytes 4 (crc32 body).toNat

/-- The part of a frame that its check covers: everything but the 4 trailer bytes. -/
def frameBody (bs : List Byte) : List Byte :=
  bs.take (bs.length - 4)

/-- A received frame is well formed (R4): length 18 … 530, length field at most 512, and length 18 plus that field. -/
def frameWellFormed (bs : List Byte) : Bool :=
  decide (18 ≤ bs.length) && decide (bs.length ≤ 530) && decide (field bs 4 2 ≤ 512)
    && decide (bs.length = 18 + field bs 4 2)

/-- The computed check matches the trailer (R5). -/
def checkMatches (bs : List Byte) : Bool :=
  field bs (bs.length - 4) 4 == (crc32 (frameBody bs)).toNat

/-- A good frame passes both tests (R8). -/
def goodFrame (bs : List Byte) : Bool :=
  frameWellFormed bs && checkMatches bs

/-- The header fields (R7). -/
def frameKind (bs : List Byte) : Nat := field bs 0 1
def frameDest (bs : List Byte) : Nat := field bs 1 1
def frameSource (bs : List Byte) : Nat := field bs 2 1
def frameSlot (bs : List Byte) : Nat := field bs 3 1
def frameTag (bs : List Byte) : Nat := field bs 6 2
def frameTime (bs : List Byte) : Time := timeField bs 8

/-- The payload: what lies between the 14 header bytes and the trailer. -/
def framePayload (bs : List Byte) : List Byte :=
  (frameBody bs).drop 14

/-- The kind bytes of the kind table (R7). -/
def kindCycle : Nat := 1
def kindAssign : Nat := 2
def kindSample : Nat := 3
def kindMarker : Nat := 4
def kindEnvironment : Nat := 5
def kindManage : Nat := 6
def kindResponse : Nat := 7
def kindRecord : Nat := 8

/-- A whole frame, header, payload and check (R6, R7). -/
def buildFrame (kind dest source slot tag : Nat) (time : Time) (payload : List Byte) : List Byte :=
  sealFrame (leBytes 1 kind ++ leBytes 1 dest ++ leBytes 1 source ++ leBytes 1 slot ++ leBytes 2 payload.length
    ++ leBytes 2 tag ++ leBytes 6 time.toNat ++ payload)

/-- The frame with one header or payload byte replaced and a fresh check (R5: an ASSIGN taken, a CYCLE claimed). -/
def alterByte (bs : List Byte) (at_ value : Nat) : List Byte :=
  sealFrame ((frameBody bs).set at_ (BitVec.ofNat 8 value))

end Sys2Proof.Machine

namespace Sys2Proof

/-- The codes of the closed sets of names, as the format tables give them (R7, R185, R189, R197). -/
def TriggerKind.code : TriggerKind → Nat
  | .edge => 0 | .reference => 1 | .timed => 2 | .manual => 3

def Polarity.code : Polarity → Nat
  | .rise => 0 | .fall => 1 | .none => 2

def FieldStatus.code : FieldStatus → Nat
  | .ok => 0 | .relative => 1 | .unsure => 2 | .fallback => 3 | .late => 4 | .timeout => 5 | .off => 6

def Status.code : Status → Nat
  | .done => 0 | .started => 1 | .busy => 2 | .full => 3 | .refusedState => 4 | .refusedRange => 5
  | .refusedConflict => 6 | .refusedOrder => 7 | .denied => 8 | .unknown => 9

def ResetCause.code : ResetCause → Nat
  | .powerOn => 0 | .pin => 1 | .supplyDip => 2 | .fullRequest => 3 | .restartRequest => 4

def CaptureState.code : CaptureState → Nat
  | .stopped => 0 | .armed => 1 | .halted => 2

/-- The Route Table index of a kind: its number less 1 (R189). -/
def ErrorKind.index : ErrorKind → Fin 23
  | .frameCheck => 0 | .chainDegraded => 1 | .forwardOverrun => 2 | .chainDown => 3 | .linkTime => 4
  | .manageOverrun => 5 | .periodMismatch => 6 | .slipJump => 7 | .slipGap => 8 | .signalDegraded => 9
  | .overspeed => 10 | .axisLost => 11 | .headSilent => 12 | .envStale => 13 | .envClamped => 14
  | .referenceUnsure => 15 | .calibrationRejected => 16 | .pendingFull => 17 | .captureLate => 18
  | .captureTimeout => 19 | .queueOverflow => 20 | .compareMissed => 21 | .positionSaturated => 22

/-- The number of a kind, 1 … 23 (R189). -/
def ErrorKind.number (k : ErrorKind) : Nat :=
  k.index.val + 1

/-- The number of an event, 1 … 27 (R197). -/
def Event.number : Event → Nat
  | .always => 1 | .goodFramesIn => 2 | .badFrames => 3 | .framesForwarded => 4 | .framesInserted => 5
  | .cycleFrames => 6 | .samplesAccepted => 7 | .weakSamples => 8 | .staleSamples => 9 | .triggersTaken => 10
  | .triggersDropped => 11 | .entriesCompleted => 12 | .recordsQueued => 13 | .outsideWindow => 14
  | .gapWindow => 15 | .masked => 16 | .doubleEdges => 17 | .recordsDropped => 18 | .samplesDiscarded => 19
  | .recordsTransmitted => 20 | .environmentValues => 21 | .compareFires => 22 | .managementRequests => 23
  | .managementRefusals => 24 | .slips => 25 | .discardedByStop => 26 | .recordsFlushed => 27

end Sys2Proof
end

