-- ==== Sys2Proof/Syntax.lean ====
section
/-! DEFINITION. The commands of the block: one constructor per row of spec/opcode_table.json.

A frame command carries the bytes received at the inbound port, from the first header byte to the last trailer byte.
The other rows are the part's own indivisible steps. Their operand says only WHERE the step happens (the axis, or the
block whose raise or report FMN takes next); WHAT the step works on stands in State: the request MGA is executing, or
the message that another block has handed over and that has not been taken yet. -/

namespace Sys2Proof

/-- One constructor per row of spec/opcode_table.json, in the table's order. -/
inductive Instr where
  | badFrame (bytes : List Byte)
  | linkErrorDecay
  | cycle (bytes : List Byte)
  | assign (bytes : List Byte)
  | sample (bytes : List Byte)
  | marker (bytes : List Byte)
  | environment (bytes : List Byte)
  | manage (bytes : List Byte)
  | forwardedFrame (bytes : List Byte)
  | chainDown
  | axisChainLoss (axis : AxisId)
  | transmitStart
  | frameSent
  | always
  | powerOn
  | pin
  | supplyDip
  | fullRequest
  | requestBegin
  | unknownRequest
  | identify
  | readTable
  | writeTableSource
  | writeTableAxis
  | writeTableNonlinear
  | writeTableComposite
  | writeTableEnvgroup
  | writeTableWindow
  | writeTableCapmap
  | writeTableCompare
  | writeTableRoute
  | writeTableCountsel
  | writeTableDelivery
  | writeTableTiming
  | axisStart
  | axisStop
  | accept
  | zeroAtReference
  | zeroCancel
  | preset
  | calibrate
  | calibrateAbort
  | axisStatus
  | arm
  | stopCapture
  | manualCapture
  | drain
  | flushQueue
  | queueStatus
  | readErrors
  | clearErrors
  | readCounters
  | clearCounters
  /-- `none`: every block that has not taken the RESTART takes it; `some b`: block b takes it as an event of its own. -/
  | restart (block : Option Block)
  | fullReset
  | sampleArrival (axis : AxisId)
  | bucketDecay (axis : AxisId)
  | calibrationTimeout (axis : AxisId)
  | axisSilence (axis : AxisId)
  | envValue
  | groupStale
  | edgeTrigger
  | referenceEvent
  | zeroNotice (axis : AxisId)
  | zeroOutcome (axis : AxisId)
  | captureTimeout
  | compareFire
  | halt
  | recordQueued
  | flushAge
  | errorRaise (source : Block)
  | attentionSourceRaise (source : Block)
  | eventReport (source : Block)
  deriving DecidableEq, Repr

end Sys2Proof
end

