-- ==== Sys2Proof/WellFormed.lean ====
section
/-! DEFINITION. Which commands are well formed: a frame command's bytes are the frame its row names, and a step's
block is one that can take part in it. A frame command whose bytes are some other frame is no error of the machine:
the part sees bytes, not names, and does what those bytes ask (log 7). -/

namespace Sys2Proof

open Machine

/-- The bytes are a good frame of this kind. -/
def goodFrameOfKind (kind : Nat) (bytes : List Byte) : Bool :=
  goodFrame bytes && frameKind bytes == kind

/-- The blocks that take a RESTART as an event of their own (R186); MGA itself ends it. -/
def Block.takesRestart : Block → Bool
  | .mga => false
  | _ => true

/-- The blocks that raise errors: every block but FMN, which takes them (R189). -/
def Block.raisesErrors : Block → Bool
  | .fmn => false
  | _ => true

/-- The blocks that raise attention sources: the Axis Engines and RQU (R195). -/
def Block.raisesAttention : Block → Bool
  | .axe _ => true
  | .rqu => true
  | _ => false

/-- The blocks that report events (R197): every block but SCU and FMN; CPT stands for the local reference. -/
def Block.reportsEvents : Block → Bool
  | .scu => false
  | .fmn => false
  | _ => true

/-- The well-formedness of a command. -/
def Instr.wf : Instr → Bool
  | .badFrame b => !goodFrame b
  | .cycle b => goodFrameOfKind kindCycle b
  | .assign b => goodFrameOfKind kindAssign b
  | .sample b => goodFrameOfKind kindSample b
  | .marker b => goodFrameOfKind kindMarker b
  | .environment b => goodFrameOfKind kindEnvironment b
  | .manage b => goodFrameOfKind kindManage b
  | .forwardedFrame b =>
      goodFrame b && !(goodFrameOfKind kindCycle b || goodFrameOfKind kindAssign b || goodFrameOfKind kindSample b
        || goodFrameOfKind kindMarker b || goodFrameOfKind kindEnvironment b)
  | .restart (some b) => b.takesRestart
  | .restart none => true
  | .errorRaise b => b.raisesErrors
  | .attentionSourceRaise b => b.raisesAttention
  | .eventReport b => b.reportsEvents
  | .linkErrorDecay | .chainDown | .axisChainLoss _ | .transmitStart | .frameSent | .always | .powerOn | .pin
  | .supplyDip | .fullRequest | .requestBegin | .unknownRequest | .identify | .readTable | .writeTableSource
  | .writeTableAxis | .writeTableNonlinear | .writeTableComposite | .writeTableEnvgroup | .writeTableWindow
  | .writeTableCapmap | .writeTableCompare | .writeTableRoute | .writeTableCountsel | .writeTableDelivery
  | .writeTableTiming | .axisStart | .axisStop | .accept | .zeroAtReference | .zeroCancel | .preset | .calibrate
  | .calibrateAbort | .axisStatus | .arm | .stopCapture | .manualCapture | .drain | .flushQueue | .queueStatus
  | .readErrors | .clearErrors | .readCounters | .clearCounters | .fullReset | .sampleArrival _ | .bucketDecay _
  | .calibrationTimeout _ | .axisSilence _ | .envValue | .groupStale | .edgeTrigger | .referenceEvent
  | .zeroNotice _ | .zeroOutcome _ | .captureTimeout | .compareFire | .halt | .recordQueued | .flushAge => true

end Sys2Proof
end

