-- ==== Sys2Proof/Decode.lean ====
section
/-! DEFINITION. The command that a word spells. Every row of spec/opcode_table.json has an empty list of fields and no
fixed bits, so no word spells a command (log 2): the 7340 is a block, and a frame reaches it as bytes in a command. -/

namespace Sys2Proof

/-- No row of the table gives bits, so no word spells a command. -/
def decodeTableWord (_nbits _w : Nat) : Option Instr :=
  none

end Sys2Proof
end

