-- ==== Sys2Proof/Machine/State.lean ====
section
/-! DEFINITION. The state of the part as plain data, block by block, the messages that one block has handed to another
and that has not taken them yet, and the queue of commands that wait. -/

namespace Sys2Proof.Machine

/-- No rule of the manual ends the part's operation: no command faults. -/
inductive Fault where
  deriving DecidableEq, Repr

/-- The one refusal: an arm of exec whose command has no meaning yet (safe: nothing can be proved of it). -/
inductive Refusal where
  | notModelled (mnemonic : String)
  deriving DecidableEq, Repr

/-! ### CPT, the Chain Port (R13 to R22) -/

/-- A frame in the forward queue, with the number of the broadcast request whose copy it is (R187), if it is one. -/
structure ForwardedFrame where
  bytes : List Byte
  copyOf : Option Nat
  deriving DecidableEq, Repr

/-- CPT's state. `linkOutput` (R22) is a function of it. `nextCopy` is the model's own numbering of broadcast copies. -/
structure Cpt where
  station : Nat := 0
  controller : Nat := 0
  observed : Time := 0
  established : Bool := false
  chainLimit : Nat := 1000
  timer : Nat := 0
  down : Bool := false
  bucket : Nat := 0
  decay : Nat := 0
  forward : List ForwardedFrame := []
  fairness : Nat := 0
  transmitter : Option (List Byte) := none
  nextCopy : Nat := 0
  deriving DecidableEq, Repr

/-! ### SFL, the Source Filter (R24) -/

/-- What a Source Table entry's kind adds (R24). A MARKER entry with no reference axis has the EDGE role. -/
inductive SourceKind where
  | samplePair (axis : AxisId) (period : Nat)
  | marker (source : Fin 8) (reference : Option AxisId)
  | environment
  deriving DecidableEq, Repr

/-- A valid Source Table entry (R24). -/
structure SourceEntry where
  station : Nat
  channel : Nat
  forward : Bool
  kind : SourceKind
  deriving DecidableEq, Repr

/-- SFL's state: the Source Table; an empty entry is `none`. -/
structure Sfl where
  table : Vector (Option SourceEntry) 16 := Vector.replicate 16 none
  deriving DecidableEq, Repr

/-! ### AXE, the Axis Engines (R51, R57, R88, R102, R115) -/

/-- An Axis Table entry with the defaults of R51. `negative` is the sign setting −1. -/
structure AxisSettings where
  enable : Bool := false
  oC : Int := 0
  oS : Int := 0
  gain : Int := 16384
  ks : Int := 0
  kc : Int := 16384
  wLo : Nat := 3000
  wHi : Nat := 3600
  fVac : Nat := 648182784
  negative : Bool := false
  group : Option GroupId := none
  deadPath : Nat := 0
  refPosition : Int := 0
  slipLimit : Nat := 1024
  gapLimit : Nat := 4
  decayInterval : Nat := 4096
  bucketThreshold : Nat := 64
  overspeedThreshold : Nat := 1600
  silenceLimit : Nat := 5000
  deriving DecidableEq, Repr

/-- An entry of the history ring (R71). -/
structure HistEntry where
  time : Time
  count : Int
  slip : Bool
  referenced : Bool
  deriving DecidableEq, Repr

/-- The zero state of R102. RESOLVING names the pending entry it resolves (R104). -/
inductive ZeroState where
  | none
  | waiting
  | resolving (entry : Nat)
  deriving DecidableEq, Repr

/-- The axis context of R57, with the weak flag and signal reading of R42 and R44, O and x_ref of R88, and the zero
state and reference record of R102. The defaults are the values in OFF. -/
structure AxisContext where
  state : AxisState := .off
  count : Int := 0
  pcPrev : Nat := 0
  tracking : Int := 0
  tAcc : Time := 0
  tSeen : Time := 0
  seenMark : Bool := false
  silenceRef : Time := 0
  silenceMark : Bool := false
  lastC : Int := 0
  lastS : Int := 0
  ring : List HistEntry := []
  bucket : Nat := 0
  decay : Nat := 0
  overspeed : Bool := false
  weak : Bool := false
  signal : Nat := 0
  offset : Int := 0
  xRef : Int := 0
  zero : ZeroState := .none
  refKind : RefKind := .none
  refTime : Time := 0
  markTime : Time := 0
  zeroShift : Int := 0
  deriving DecidableEq, Repr

/-- The calibration record of R115. -/
structure CalRecord where
  outcome : CalOutcome := .none
  reason : Nat := 0
  required : Nat := 0
  sampleLimit : Nat := 0
  seen : Nat := 0
  motion : Nat := 0
  quadrants : BitVec 4 := 0
  extremes : Bool := false
  maxC : Int := 0
  minC : Int := 0
  maxS : Int := 0
  minS : Int := 0
  sAtMaxC : Int := 0
  sAtMinC : Int := 0
  oC : Int := 0
  oS : Int := 0
  gain : Int := 0
  ks : Int := 0
  kc : Int := 0
  deriving DecidableEq, Repr

/-- One Axis Engine: its Axis Table entry, Nonlinearity Table, context and calibration record. `arming` is the model's
own number of the current or last arming for a zero (R103, R104). -/
structure Axis where
  settings : AxisSettings := {}
  nonlinear : Vector Int 64 := Vector.replicate 64 0
  ctx : AxisContext := {}
  cal : CalRecord := {}
  arming : Nat := 0
  deriving DecidableEq, Repr

/-! ### SCU, the Scaling Unit (R84, R93) -/

/-- An environment group (R84). -/
structure EnvGroup where
  default_ : Int := 0
  slewLimit : Nat := 0
  staleLimit : Nat := 100000000
  applied : Int := 0
  lastValue : Int := 0
  lastTime : Time := 0
  stale : Bool := true
  deriving DecidableEq, Repr

/-- A Composite Table entry (R93). -/
inductive CompositeEntry where
  | unused
  | weighted (a b : AxisId) (wa wb : Int) (fallback : Bool)
  | diffRatio (a b : AxisId) (sep : Nat)
  deriving DecidableEq, Repr

structure Scu where
  groups : Vector EnvGroup 4 := Vector.replicate 4 {}
  composites : Vector CompositeEntry 4 := Vector.replicate 4 .unused
  deriving DecidableEq, Repr

/-! ### CAP, the Capture Unit (R129, R130, R133, R137, R149, R156) -/

/-- A Capture Map entry: bit x of the mask names axis x (R129). -/
structure CapMapEntry where
  mask : BitVec 10 := 0
  gated : Bool := false
  deriving DecidableEq, Repr

/-- A compare slot; period 0 is one-shot (R130). -/
structure CompareSlot where
  enable : Bool := false
  next : Time := 0
  period : Nat := 0
  deriving DecidableEq, Repr

/-- A raw or composite field of a pending entry (R137): not yet resolved, resolved with a value and its stale mark, or
resolved with a reason for having none. -/
inductive Field where
  | waiting
  | value (status : FieldStatus) (position : Int) (stale : Bool)
  | absent (status : FieldStatus)
  deriving DecidableEq, Repr

/-- A pending entry (R137). `raw` and `composite` hold the fields the entry awaits; `id` is the model's own name of
the entry, for the notices and outcomes of R104 and R107. -/
structure Entry where
  id : Nat
  kind : TriggerKind
  source : SourceId
  polarity : Polarity
  time : Time
  record : Bool
  mask : BitVec 10
  gated : Bool
  zeroMark : Option AxisId
  windowAxis : Option (Fin 10)
  copies : Vector (Option CompositeEntry) 4
  raw : Vector (Option Field) 6
  composite : Vector (Option Field) 4
  deriving DecidableEq, Repr

/-- The polarity a window accepts (R149). -/
inductive PolarityAccept where
  | rise | fall | both
  deriving DecidableEq, Repr

/-- A Window Table entry (R149); `gap` is the kind GAP. -/
structure WindowEntry where
  limit : Int := 0
  gap : Bool := true
  zone : Nat := 0
  sources : BitVec 8 := 0
  polarity : PolarityAccept := .both
  spacing : Nat := 0
  deriving DecidableEq, Repr

/-- The Window Table header (R149). -/
structure WindowHeader where
  base : Int := 0
  valid : Nat := 0
  axis : Fin 10 := 0
  deriving DecidableEq, Repr

structure Cap where
  state : CaptureState := .stopped
  map : Vector CapMapEntry 13 := Vector.replicate 13 {}
  slots : Vector CompareSlot 4 := Vector.replicate 4 {}
  timeout : Nat := 20000
  entries : List Entry := []
  header : WindowHeader := {}
  windows : Vector WindowEntry 32 := Vector.replicate 32 {}
  lastEdge : Vector (Option Int) 8 := Vector.replicate 8 none
  nextId : Nat := 0
  deriving DecidableEq, Repr

/-! ### RQU, the Record Queue (R160 to R168) -/

/-- One axis entry of a capture record (R7); `value` is 0 where the status has none (R6). -/
structure AxisEntry where
  axis : Nat
  status : FieldStatus
  value : Int
  deriving DecidableEq, Repr

/-- A capture record as CAP assembles it (R145). -/
structure Record where
  kind : TriggerKind
  source : SourceId
  polarity : Polarity
  zone : Nat
  time : Time
  taint : Bool
  ungated : Bool
  envStale : Bool
  fields : List AxisEntry
  deriving DecidableEq, Repr

/-- A queued record with its sequence number (R160, R161). -/
structure QueuedRecord where
  sequence : Nat
  body : Record
  deriving DecidableEq, Repr

/-- The Delivery settings (R167). -/
structure Delivery where
  pull : Bool := false
  reader : Nat := 0
  watermark : Nat := 16
  interval : Nat := 100000
  dropOldest : Bool := false
  deriving DecidableEq, Repr

structure Rqu where
  queue : List QueuedRecord := []
  sequence : Nat := 0
  drops : Nat := 0
  drain : Nat := 0
  ageDue : Bool := false
  delivery : Delivery := {}
  deriving DecidableEq, Repr

/-! ### MGA, the Management Agent (R174, R175, R185) -/

/-- A request in the intake. `copy` numbers the forwarded copy of a broadcast request (R187). -/
structure Request where
  source : Nat
  broadcast : Bool
  tag : Nat
  payload : List Byte
  copy : Nat
  deriving DecidableEq, Repr

/-- A RESPONSE frame on the response list; its source station, time and check are filled in when the transmitter takes
it (R6). `endsInReset` marks the DONE response of a FULL RESET (R187). -/
structure Response where
  dest : Nat
  tag : Nat
  code : Nat
  status : Status
  data : List Byte
  endsInReset : Bool
  deriving DecidableEq, Repr

/-- What a FULL RESET taken by MGA waits for (R187). -/
inductive ResetWait where
  | response
  | copy (number : Nat)
  deriving DecidableEq, Repr

/-- MGA's state. `executing` is the request handed to its owner and not answered yet; `restartLeft` holds the blocks
that have still to take the RESTART being executed. -/
structure Mga where
  intake : List Request := []
  executing : Option Request := none
  responses : List Response := []
  restartLeft : List Block := []
  resetWait : Option ResetWait := none
  cause : ResetCause := .powerOn
  deriving DecidableEq, Repr

/-! ### FMN, the Fault Monitor (R190, R191, R193, R195, R197) -/

structure Route where
  attention : Bool
  halt : Bool
  taint : Bool
  deriving DecidableEq, Repr

/-- A filled FIRST record (R191). -/
structure FirstRecord where
  kind : ErrorKind
  subject : Nat
  time : Time
  detail : BitVec 32
  deriving DecidableEq, Repr

/-- The default Route Table (R193): taint for SLIP_JUMP, SLIP_GAP, CHAIN_DOWN and ENV_STALE (indices 7, 8, 3, 13). -/
def defaultRoutes : Vector Route 23 :=
  Vector.ofFn fun i => { attention := true, halt := false, taint := i = 7 || i = 8 || i = 3 || i = 13 }

structure Fmn where
  flags : Vector Bool 23 := Vector.replicate 23 false
  counts : Vector Nat 23 := Vector.replicate 23 0
  first : Option FirstRecord := none
  operationEnded : Bool := false
  queueWatermark : Bool := false
  routes : Vector Route 23 := defaultRoutes
  selections : Vector Nat 8 := Vector.ofFn fun j => j.val + 2
  counters : Vector Nat 8 := Vector.replicate 8 0
  deriving DecidableEq, Repr

/-! ### Messages between blocks, made and not taken yet -/

/-- A sample delivered to an Axis Engine (R32). -/
structure SampleMsg where
  time : Time
  c : Int
  s : Int
  overrange : Bool
  period : Nat
  deriving DecidableEq, Repr

/-- What CPT hands an Axis Engine: an advance of the observed link time (R18) or the chain-down loss (R77). -/
inductive LinkEvent where
  | advance (time : Time)
  | loss
  deriving DecidableEq, Repr

/-- The outcome of a zero field (R105). -/
inductive ZeroResult where
  | late | timeout | off
  | bracket (pRef : Int) (h1Slip : Bool) (tRef : Time)
  deriving DecidableEq, Repr

/-- What CAP tells an Axis Engine about a zero-resolution entry: that it was placed (with the arming CAP found,
R104), that STOP CAPTURE removed it (R135), or how its zero field resolved (R105). -/
inductive ZeroMsg where
  | placed (entry arming : Nat)
  | removed (entry : Nat)
  | outcome (entry : Nat) (result : ZeroResult)
  deriving DecidableEq, Repr

/-- A matched marker event handed to CAP (R33); a reference axis makes it a reference event. -/
structure MarkerMsg where
  source : Fin 8
  polarity : Polarity
  time : Time
  reference : Option AxisId
  deriving DecidableEq, Repr

/-- An air-index value handed to SCU (R34). -/
structure EnvMsg where
  group : GroupId
  value : Int
  deriving DecidableEq, Repr

/-- An error raise on its way to FMN, and how many equal raises of the same event stand behind it (R190). -/
structure RaiseMsg where
  source : Block
  kind : ErrorKind
  subject : Nat
  detail : BitVec 32
  more : Nat
  deriving DecidableEq, Repr

/-- An event report on its way to FMN, and how many equal reports stand behind it (R197). -/
structure ReportMsg where
  source : Block
  event : Event
  more : Nat
  deriving DecidableEq, Repr

/-- The raise of an attention source on its way to FMN (R195). -/
structure SourceMsg where
  source : Block
  which : AttentionSource
  deriving DecidableEq, Repr

/-- What has been handed over and not taken, oldest first in each list. `advances` and `slotChecks` hold the link
times of the advances that CAP has still to examine its entries, and its compare slots, at. -/
structure Bus where
  samples : Vector (List SampleMsg) 6 := Vector.replicate 6 []
  linkEvents : Vector (List LinkEvent) 6 := Vector.replicate 6 []
  zeroMsgs : Vector (List ZeroMsg) 6 := Vector.replicate 6 []
  envValues : List EnvMsg := []
  scuAdvances : List Time := []
  markers : List MarkerMsg := []
  capAdvances : List Time := []
  slotChecks : List Time := []
  halts : Nat := 0
  records : List Record := []
  rquAdvances : Nat := 0
  raises : List RaiseMsg := []
  reports : List ReportMsg := []
  sources : List SourceMsg := []
  deriving DecidableEq, Repr

/-! ### The whole part -/

/-- The state of the part. `freeIndex` numbers the free values taken so far (the model's own, log 5); `pending` is the
queue of commands that wait, first in, first out. -/
structure State where
  cpt : Cpt := {}
  sfl : Sfl := {}
  axes : Vector Axis 6 := Vector.replicate 6 {}
  scu : Scu := {}
  cap : Cap := {}
  rqu : Rqu := {}
  mga : Mga := {}
  fmn : Fmn := {}
  bus : Bus := {}
  freeIndex : Nat := 0
  pending : List Instr := []
  deriving DecidableEq, Repr

/-- The part right after a power-on reset: R23, R36, R55, R80, R101, R102, R115, R147, R159, R173, R188, R199. -/
def State.reset : State := {}

end Sys2Proof.Machine
end

