-- ==== Sys2Proof/Machine/Ops.lean ====
section
/-! DEFINITION. The named operations every block's meaning is written with: one update per block, the link-time
comparison (R3), the manual's rounding (R1), saturation at ±(2^47 − 1), and the messages blocks hand one another. -/

namespace Sys2Proof.Machine

/-! ### One update per block -/

def State.modCpt (s : State) (f : Cpt → Cpt) : State := { s with cpt := f s.cpt }
def State.modSfl (s : State) (f : Sfl → Sfl) : State := { s with sfl := f s.sfl }
def State.modScu (s : State) (f : Scu → Scu) : State := { s with scu := f s.scu }
def State.modCap (s : State) (f : Cap → Cap) : State := { s with cap := f s.cap }
def State.modRqu (s : State) (f : Rqu → Rqu) : State := { s with rqu := f s.rqu }
def State.modMga (s : State) (f : Mga → Mga) : State := { s with mga := f s.mga }
def State.modFmn (s : State) (f : Fmn → Fmn) : State := { s with fmn := f s.fmn }
def State.modBus (s : State) (f : Bus → Bus) : State := { s with bus := f s.bus }

/-- Entry i of a vector replaced by a function of it. -/
def modifyAt {α : Type} {n : Nat} (v : Vector α n) (i : Fin n) (f : α → α) : Vector α n :=
  v.set i.val (f v[i]) i.isLt

/-- The Axis Engine of axis a updated. -/
def State.modAxis (s : State) (a : AxisId) (f : Axis → Axis) : State :=
  { s with axes := modifyAt s.axes a f }

/-- The context of axis a updated; its tables and calibration record are kept. -/
def State.modCtx (s : State) (a : AxisId) (f : AxisContext → AxisContext) : State :=
  s.modAxis a fun x => { x with ctx := f x.ctx }

/-! ### Link time and arithmetic -/

/-- Link time a is later than b (R3): (a − b) mod 2^48 lies in 1 … 2^47 − 1. The manual's "earlier than" is read as
"the other is later", and its "at or after" as "the other is not later" (log 31). -/
def later (a b : Time) : Bool :=
  decide (1 ≤ (a - b).toNat) && decide ((a - b).toNat ≤ 140737488355327)

/-- The link time d ticks after t (mod 2^48). -/
def after (t : Time) (d : Nat) : Time :=
  t + BitVec.ofNat 48 d

/-- x divided by y > 0, rounded to nearest with halves upward (R1). -/
def roundDiv (x y : Int) : Int :=
  (2 * x + y) / (2 * y)

/-- A value limited to lo … hi. -/
def clamp (lo hi x : Int) : Int :=
  if x < lo then lo else if hi < x then hi else x

/-- A value limited to ±(2^47 − 1). -/
def saturate (x : Int) : Int :=
  clamp (-Config.limit48) Config.limit48 x

/-- The value lies within ±(2^47 − 1). -/
def within48 (x : Int) : Bool :=
  decide (-Config.limit48 ≤ x) && decide (x ≤ Config.limit48)

/-- A number read as an index below n, if it is one. -/
def finOf (n x : Nat) : Option (Fin n) :=
  if h : x < n then some ⟨x, h⟩ else none

/-- The first element that satisfies p, and the list without it. -/
def takeFirst {α : Type} (p : α → Bool) : List α → Option (α × List α)
  | [] => none
  | x :: xs => if p x then some (x, xs) else (takeFirst p xs).map fun r => (r.1, x :: r.2)

/-! ### Messages to FMN (R190, R195, R197) -/

/-- A block raises an error kind `times` times in one event (0: not at all). -/
def State.raiseTimes (s : State) (source : Block) (kind : ErrorKind) (subject : Nat) (detail : Int) (times : Nat) :
    State :=
  if times = 0 then s
  else s.modBus fun b => { b with raises := b.raises ++ [⟨source, kind, subject, BitVec.ofInt 32 detail, times - 1⟩] }

/-- A block raises an error kind once. -/
def State.raise (s : State) (source : Block) (kind : ErrorKind) (subject : Nat) (detail : Int) : State :=
  s.raiseTimes source kind subject detail 1

/-- A block reports an event `times` times (0: not at all). -/
def State.reportTimes (s : State) (source : Block) (event : Event) (times : Nat) : State :=
  if times = 0 then s else s.modBus fun b => { b with reports := b.reports ++ [⟨source, event, times - 1⟩] }

/-- A block reports an event once. -/
def State.report (s : State) (source : Block) (event : Event) : State :=
  s.reportTimes source event 1

/-- A block raises an attention source. -/
def State.raiseSource (s : State) (source : Block) (which : AttentionSource) : State :=
  s.modBus fun b => { b with sources := b.sources ++ [⟨source, which⟩] }

/-- CAP sends a notice or an outcome to the engine of axis a, behind the ones it sent before (R104). -/
def State.tellZero (s : State) (a : AxisId) (m : ZeroMsg) : State :=
  s.modBus fun b => { b with zeroMsgs := modifyAt b.zeroMsgs a (· ++ [m]) }

/-- CPT hands the engine of axis a an advance or the chain-down loss. -/
def State.handLink (s : State) (a : AxisId) (e : LinkEvent) : State :=
  s.modBus fun b => { b with linkEvents := modifyAt b.linkEvents a (· ++ [e]) }

/-- The six raw axes, ascending. -/
def allAxes : List AxisId :=
  [0, 1, 2, 3, 4, 5]

/-- The value of an axis's environment group as applied now, or 0 for an axis whose group is none (R82, R88). -/
def appliedOf (s : State) (group : Option GroupId) : Int :=
  match group with
  | none => 0
  | some g => (s.scu.groups[g]).applied

/-- The axis is in one of the counting states FREE, REFERENCED and SLIPPED. -/
def AxisContext.counting (c : AxisContext) : Bool :=
  c.state == .free || c.state == .referenced || c.state == .slipped

/-- The axis is armed for a zero (R102). -/
def AxisContext.armed (c : AxisContext) : Bool :=
  c.zero != .none

end Sys2Proof.Machine
end

