-- ==== Sys2Proof/Machine/Quadrature.lean ====
section
/-! DEFINITION. The four stages of an Axis Engine: correction, strength, phase and nonlinearity (chapter 3). -/

namespace Sys2Proof.Machine

/-- The limit of u and v (R41). -/
def uvLimit : Int := 131071

/-- R40, steps 1 and 3: the intermediate w, before stage 1 scales it by Kc. -/
def stageW (st : AxisSettings) (c s : Int) : Int :=
  ((s - st.oS) * st.gain - (c - st.oC) * st.ks + 8192) / 16384

/-- R40, step 4: v before its limit. -/
def stageV (st : AxisSettings) (c s : Int) : Int :=
  (stageW st c s * st.kc + 8192) / 16384

/-- Stage 1 (R40, R41): the corrected pair (u, v), each limited to ±131,071. -/
def stage1 (st : AxisSettings) (c s : Int) : Int × Int :=
  (clamp (-uvLimit) uvLimit (c - st.oC), clamp (-uvLimit) uvLimit (stageV st c s))

/-- The squared amplitude (R42). -/
def amplitude2 (uv : Int × Int) : Nat :=
  (uv.1 * uv.1 + uv.2 * uv.2).toNat

/-- Stage 2 (R43): the sample is weak. -/
def judgedWeak (st : AxisSettings) (weakFlag overrange : Bool) (uv : Int × Int) : Bool :=
  overrange || (uv.1 == 0 && uv.2 == 0) || decide (amplitude2 uv < st.wLo * st.wLo)
    || (weakFlag && decide (amplitude2 uv < st.wHi * st.wHi))

/-- R44: the weak flag after the judgement. -/
def weakAfter (st : AxisSettings) (weakFlag weak : Bool) (uv : Int × Int) : Bool :=
  if weak then true else if st.wHi * st.wHi ≤ amplitude2 uv then false else weakFlag

/-- (cos, sin) of half a phase unit, π/4096, scaled by 2^80 and rounded. -/
def halfUnit : Int × Int :=
  (1208925464024672982419738, 927234399722509747121)

/-- (cos, sin) of 2^b phase units, b · for b = 9 down to 0, each with the phase it stands for, scaled by 2^80. -/
def unitRotations : List (Nat × Int × Int) :=
  [ (512, 854839645001009215068542, 854839645001009215068542),
    (256, 1116901821066387782991457, 462635882124905661503633),
    (128, 1185696648977439268413811, 235849727442229801031474),
    (64, 1203104511360146332467513, 118495451709196174743783),
    (32, 1207469615520205493846559, 59319178402857521215137),
    (16, 1208561713760085258884695, 29668524806411653107242),
    (8, 1208834789723801514652793, 14835379479996263089095),
    (4, 1208903061927718747322595, 7417829378539895499670),
    (2, 1208920130179513785331761, 3708932144210887464776),
    (1, 1208924397255013589970078, 1854468253976911810989) ]

/-- The number of whole phase units in the angle of (x, y), an angle below twice the first rotation: each rotation
that fits is taken off the angle and counted. -/
def wholeUnits : List (Nat × Int × Int) → Int → Int → Nat
  | [], _, _ => 0
  | (n, c, s) :: rest, x, y =>
      if 0 ≤ y * c - x * s then n + wholeUnits rest (x * c + y * s) (y * c - x * s) else wholeUnits rest x y

/-- The whole phase units of the angle, in 0 … 2π, of a pair other than (0, 0): half turn and quarter turn first,
exactly, which leave an angle in 0 … π/2 with 0 < x2 and 0 ≤ y2. -/
def unitsOfAngle (x y : Int) : Nat :=
  let (n1, x1, y1) := if y < 0 ∨ (y = 0 ∧ x < 0) then (2048, -x, -y) else (0, x, y)
  let (n2, x2, y2) := if x1 ≤ 0 then (1024, y1, -x1) else (0, x1, y1)
  n1 + n2 + wholeUnits unitRotations x2 y2

/-- Stage 3 (R46, R47): the phase p = floor(θ · 4096 / 2π + 1/2) mod 4096 of the pair, exact for every pair that can
reach the stage. The pair is turned forward by half a unit and the whole units of its angle are counted. Constants of
80 bits decide every comparison: no direction of integers within ±131,071 comes nearer to a boundary than 2^-43 rad
(log 6). -/
def phase (u v : Int) : Nat :=
  unitsOfAngle (u * halfUnit.1 - v * halfUnit.2) (u * halfUnit.2 + v * halfUnit.1) % 4096

/-- R48: the interpolated residual at phase p. -/
def phaseResidual (e : Vector Int 64) (p : Nat) : Int :=
  let k := p / 64 % 64
  let here := e[k]'(Nat.mod_lt _ (by decide))
  let next := e[(k + 1) % 64]'(Nat.mod_lt _ (by decide))
  here + ((next - here) * (p % 64 : Nat) + 32) / 64

/-- Stage 4 (R49): the corrected phase. -/
def correctedPhase (e : Vector Int 64) (p : Nat) : Nat :=
  (((p : Int) - phaseResidual e p) % 4096).toNat

/-- Stages 3 and 4 of a corrected pair. -/
def phaseOf (e : Vector Int 64) (uv : Int × Int) : Nat :=
  correctedPhase e (phase uv.1 uv.2)

end Sys2Proof.Machine
end

