-- ==== Sys2Proof/Machine/Counting.lean ====
section
/-! DEFINITION. The counting stage of an Axis Engine: the weak-signal bucket, unwrapping, saturation, overspeed, the
history ring and the bracket of a trigger time (chapter 4). -/

namespace Sys2Proof.Machine

/-- R62: the multiple-of-4096 adjustment of z nearest to zero, in −2048 … 2047. -/
def wrap (z : Int) : Int :=
  (z + 2048) % 4096 - 2048

/-- R63: the head periods since the last accepted sample, rounded, and at least 1. -/
def headPeriods (tAcc t : Time) (period : Nat) : Nat :=
  max 1 ((2 * (t - tAcc).toNat + period) / (2 * period))

/-- The limit of the tracking increment (R64). -/
def trackingLimit : Int := 1048575

/-- What unwrapping one strong sample gives: the increment Δ, the new count and tracking increment, whether the sample
is slip-flagged, the new overspeed flag, and the errors to raise, in their order (R81). -/
structure Unwrapped where
  delta : Int
  count : Int
  tracking : Int
  slip : Bool
  overspeed : Bool
  raises : List (ErrorKind × Int)
  deriving DecidableEq, Repr

/-- R65, R70: the increment, tracking increment and errors of a gap over k head periods. -/
def gapStep (c : AxisContext) (pc k : Nat) : Int × Int × Bool × List (ErrorKind × Int) :=
  (wrap ((pc : Int) - c.pcPrev), 0, true, [(.slipGap, (min k 4294967295 : Nat))])

/-- R64: the increment, tracking increment and errors of a sample unwrapped with prediction. -/
def predictedStep (slipLimit : Nat) (c : AxisContext) (pc k : Nat) : Int × Int × Bool × List (ErrorKind × Int) :=
  let e := wrap ((pc : Int) - c.pcPrev - c.tracking * k)
  let delta := c.tracking * k + e
  let tracking := clamp (-trackingLimit) trackingLimit ((2 * delta + k) / (2 * k))
  let jump := decide ((slipLimit : Int) < |e|)
  (delta, tracking, jump, if jump then [(.slipJump, e)] else [])

/-- R66, R68: a step applied to the count, with saturation and the overspeed test. -/
def applyStep (overspeedThreshold : Nat) (c : AxisContext) (step : Int × Int × Bool × List (ErrorKind × Int)) :
    Unwrapped :=
  let (delta, tracking, slip, raises) := step
  let sum := c.count + delta
  let saturated := if within48 sum then [] else [(ErrorKind.positionSaturated, if 0 < sum then (1 : Int) else 2)]
  let fast := decide ((overspeedThreshold : Int) < |tracking|)
  let overRaise := if fast && !c.overspeed then [(ErrorKind.overspeed, |tracking|)] else []
  { delta, count := saturate sum, tracking, slip := slip || !within48 sum, overspeed := fast
    raises := raises ++ saturated ++ overRaise }

/-- R63 to R66, R68, R70: a strong sample at time t is unwrapped; in LOST always as a gap. -/
def unwrap (st : AxisSettings) (c : AxisContext) (t : Time) (pc period : Nat) : Unwrapped :=
  let k := headPeriods c.tAcc t period
  applyStep st.overspeedThreshold c
    (if c.state = .lost ∨ st.gapLimit < k then gapStep c pc k else predictedStep st.slipLimit c pc k)

/-- R71: an entry written at the newest end; a ring of 64 loses its oldest entry. -/
def pushRing (ring : List HistEntry) (h : HistEntry) : List HistEntry :=
  (if ring.length < Config.ringDepth then ring else ring.drop 1) ++ [h]

/-- R67, R70: the state a strong sample of a counting or lost axis leaves. -/
def stateAfterSample (state : AxisState) (slip : Bool) : AxisState :=
  match state with
  | .lost => .slipped
  | .referenced => if slip then .slipped else .referenced
  | other => other

/-- R69, steps 1 to 3: the context after the acceptance of an unwrapped sample. -/
def acceptSample (c : AxisContext) (m : SampleMsg) (pc : Nat) (w : Unwrapped) : AxisContext :=
  let state := stateAfterSample c.state w.slip
  { c with
    state, count := w.count, tracking := w.tracking, overspeed := w.overspeed
    pcPrev := pc, tAcc := m.time, lastC := m.c, lastS := m.s
    ring := pushRing c.ring ⟨m.time, w.count, w.slip, state == .referenced⟩ }

/-- R61: a strong sample in ACQUIRE starts the count. -/
def startCount (c : AxisContext) (m : SampleMsg) (pc : Nat) : AxisContext :=
  { c with
    state := .free, count := 0, tracking := 0, pcPrev := pc, tAcc := m.time, lastC := m.c, lastS := m.s
    ring := pushRing c.ring ⟨m.time, 0, true, false⟩ }

/-- R58: a sample that is seen moves t_seen and the silence reference. -/
def markSeen (c : AxisContext) (t : Time) : AxisContext :=
  { c with tSeen := t, seenMark := true, silenceRef := t, silenceMark := false }

/-- R58: the sample is stale. -/
def staleSample (c : AxisContext) (t : Time) : Bool :=
  c.seenMark && !later t c.tSeen

/-- R60, second part: the decay count returns to 0 and a bucket above 0 decreases by 1. -/
def decayBucket (c : AxisContext) : AxisContext :=
  { c with decay := 0, bucket := c.bucket - 1 }

/-- R60, second part: one more seen sample toward the decay. -/
def countTowardDecay (st : AxisSettings) (c : AxisContext) : AxisContext :=
  if c.decay + 1 < st.decayInterval then { c with decay := c.decay + 1 } else decayBucket c

/-- R60, first part: a weak sample fills the bucket, which stays at 255. -/
def fillBucket (c : AxisContext) (weak : Bool) : AxisContext :=
  if weak then { c with bucket := min 255 (c.bucket + 1) } else c

/-- R60: this weak sample takes the bucket from one below its threshold to the threshold. -/
def reachesThreshold (st : AxisSettings) (c : AxisContext) (weak : Bool) : Bool :=
  weak && c.bucket + 1 == st.bucketThreshold

/-- The newest entry at or before t (R72): the newest that is not later than t, so one exactly 2^47 ticks away counts as
at or before t (log 31). -/
def bracketBefore (ring : List HistEntry) (t : Time) : Option HistEntry :=
  ring.reverse.find? fun h => !later h.time t

/-- The oldest entry at or after t (R72): the oldest that t is not later than, so one exactly 2^47 ticks away counts as
at or after t (log 31). -/
def bracketAfter (ring : List HistEntry) (t : Time) : Option HistEntry :=
  ring.find? fun h => !later t h.time

/-- R140: the count at t between the bracket's entries. Entries of one time that is not t, exactly 2^47 ticks away by
log 31, leave R140's quotient without a value: the count is then a free value between the two counts, and so the entry's
own count where the two are one entry (log 40). -/
def interpolate (h0 h1 : HistEntry) (t : Time) : Int :=
  if h0.time = t then h0.count
  else if h1.time = t then h1.count
  else if h1.time = h0.time then
    clamp (min h0.count h1.count) (max h0.count h1.count) (Config.spanlessCount h0.count h1.count)
  else h0.count + roundDiv ((h1.count - h0.count) * (t - h0.time).toNat) (h1.time - h0.time).toNat

/-- R140: the status of a field resolved by its bracket. -/
def bracketStatus (h0 h1 : HistEntry) : FieldStatus :=
  if h1.slip then .unsure else if h0.referenced && h1.referenced then .ok else .relative

/-- BUCKET_DECAY (R60): the seen sample that makes an axis's decay count reach its interval brings it back to 0 and
lowers the bucket. An axis in OFF, or one whose count is not about to reach the interval, is left as it is (log 8). -/
def execBucketDecay (a : AxisId) (s : State) : Host.Outcome State Fault Refusal :=
  .next (s.modAxis a fun x =>
    if x.ctx.state ≠ .off ∧ x.settings.decayInterval ≤ x.ctx.decay + 1 then { x with ctx := decayBucket x.ctx } else x)

end Sys2Proof.Machine
end

