-- ==== Sys2Proof/Machine/Calibration.lean ====
section
/-! DEFINITION. The ellipse calibration of an axis: feeding its context, completion, the rejection tests, installation
and the other ends (chapter 7). The row CALIBRATION_TIMEOUT. -/

namespace Sys2Proof.Machine

/-- The largest n with n ≤ 2^bits − 1 whose square is at most x, bit by bit from the top. -/
def sqrtBits : Nat → Nat → Nat → Nat
  | 0, _, root => root
  | b + 1, x, root =>
      if (root + 2 ^ b) * (root + 2 ^ b) ≤ x then sqrtBits b x (root + 2 ^ b) else sqrtBits b x root

/-- R121: the integer nearest to 2^28 / sqrt(2^28 − Ks'²), exactly: the largest n with (2n − 1)² (2^28 − Ks'²) ≤ 2^58. -/
def secantOf (ks : Int) : Int :=
  ((sqrtBits 20 (288230376151711744 / (268435456 - ks * ks).toNat) 0 + 1) / 2 : Nat)

/-- The spans of the raw extremes (R121). -/
def CalRecord.spanC (r : CalRecord) : Int := r.maxC - r.minC
def CalRecord.spanS (r : CalRecord) : Int := r.maxS - r.minS

/-- R118: the extremes updated by a strong sample's raw pair. -/
def feedExtremes (r : CalRecord) (c s : Int) : CalRecord :=
  if r.extremes then
    let r := if r.maxC < c then { r with maxC := c, sAtMaxC := s } else r
    let r := if c < r.minC then { r with minC := c, sAtMinC := s } else r
    { r with maxS := max r.maxS s, minS := min r.minS s }
  else { r with extremes := true, maxC := c, minC := c, maxS := s, minS := s, sAtMaxC := s, sAtMinC := s }

/-- R119: the motion and the quadrants updated by a strong sample. -/
def feedMotion (r : CalRecord) (pc : Nat) (delta : Int) : CalRecord :=
  { r with
    motion := min 4294967295 (r.motion + delta.natAbs)
    quadrants := r.quadrants ||| (1#4 <<< (pc / 1024)) }

/-- R120, first test: enough motion and all four quadrants. -/
def calComplete (r : CalRecord) : Bool :=
  decide (r.required * 4096 ≤ r.motion) && r.quadrants == 15#4

/-- What the engine raises at the end of a calibration. -/
structure CalEnd where
  axis : Axis
  rejected : Option Nat
  deriving DecidableEq, Repr

/-- R122: the result is rejected with this reason. -/
def rejectWith (x : Axis) (r : CalRecord) (reason : Nat) : CalEnd :=
  { axis := { x with cal := { r with outcome := .rejected, reason := reason } }, rejected := some reason }

/-- The settings of an axis with the coefficients of a result (R123, step 1). -/
def withCoefficients (st : AxisSettings) (r : CalRecord) : AxisSettings :=
  { st with oC := r.oC, oS := r.oS, gain := r.gain, ks := r.ks, kc := r.kc }

/-- R123: a passing result is installed. -/
def installResult (x : Axis) (r : CalRecord) : CalEnd :=
  let st := withCoefficients x.settings r
  let pc := phaseOf x.nonlinear (stage1 st x.ctx.lastC x.ctx.lastS)
  { axis := { x with settings := st, ctx := { x.ctx with pcPrev := pc }, cal := { r with outcome := .installed } }
    rejected := none }

/-- R121, the offsets: formed at every completion. -/
def formOffsets (r : CalRecord) : CalRecord :=
  { r with oC := (r.maxC + r.minC + 1) / 2, oS := (r.maxS + r.minS + 1) / 2 }

/-- R121: G'. -/
def formGain (r : CalRecord) : CalRecord :=
  { r with gain := (2 * 16384 * r.spanC + r.spanS) / (2 * r.spanS) }

/-- R121: Ks'. -/
def formKs (r : CalRecord) : CalRecord :=
  { r with ks := (2 * 16384 * (r.sAtMaxC - r.sAtMinC) + r.spanS) / (2 * r.spanS) }

/-- R121: Kc'. -/
def formKc (r : CalRecord) : CalRecord :=
  { r with kc := secantOf r.ks }

/-- R121, R122, R123: a completed calibration forms its result value by value, each after the tests that come before
it have passed, and is installed or rejected by the first test that fails. -/
def completeCalibration (x : Axis) (r : CalRecord) : CalEnd :=
  let r := formOffsets r
  if r.spanC < 2 * x.settings.wLo then rejectWith x r 1
  else if r.spanS = 0 ∨ r.spanS < 2 * x.settings.wLo then rejectWith x r 2
  else
    let r := formGain r
    if r.gain < 8192 ∨ 32768 < r.gain then rejectWith x r 3
    else
      let r := formKs r
      if 4096 < |r.ks| then rejectWith x r 4
      else
        let r := formKc r
        if stage1 (withCoefficients x.settings r) x.ctx.lastC x.ctx.lastS = (0, 0) then rejectWith x r 5
        else installResult x r

/-- R124: the calibration ends by timeout. -/
def calibrationTimesOut (x : Axis) (r : CalRecord) : CalEnd :=
  { axis := { x with cal := { r with outcome := .timeout, reason := 6 } }, rejected := some 6 }

/-- The errors and the attention source of an ended calibration (R122, R123, R124). -/
def applyCalEnd (s : State) (a : AxisId) (e : CalEnd) : State :=
  let s := s.modAxis a fun _ => e.axis
  let s := match e.rejected with
    | some reason => s.raise (.axe a) .calibrationRejected a.val reason
    | none => s
  s.raiseSource (.axe a) .operationEnded

/-- R117 to R120: a seen sample reaches a running calibration; a strong one carries its raw pair, its corrected phase
and its increment. -/
def offerToCalibration (s : State) (a : AxisId) (strong : Option (Int × Int × Nat × Int)) : State :=
  let x := s.axes[a]
  if x.cal.outcome ≠ .running then s
  else
    let r := { x.cal with seen := x.cal.seen + 1 }
    let r := match strong with
      | some (c, sn, pc, delta) => feedMotion (feedExtremes r c sn) pc delta
      | none => r
    if strong.isSome && calComplete r then applyCalEnd s a (completeCalibration x r)
    else if r.sampleLimit ≤ r.seen then applyCalEnd s a (calibrationTimesOut x r)
    else s.modAxis a fun y => { y with cal := r }

/-- R125, R126: a running calibration ends ABORTED. -/
def abortCal (r : CalRecord) : CalRecord :=
  if r.outcome = .running then { r with outcome := .aborted } else r

/-- R126: the axis leaves the counting states; a running calibration ends ABORTED with OPERATION_ENDED. -/
def abortCalibration (s : State) (a : AxisId) : State :=
  if (s.axes[a]).cal.outcome = .running then
    (s.modAxis a fun x => { x with cal := abortCal x.cal }).raiseSource (.axe a) .operationEnded
  else s

/-- CALIBRATION_TIMEOUT (R124): the seen sample that brings a running calibration's samples seen to T ends it by
timeout. With no calibration running, or further from T, nothing happens (log 8). -/
def execCalibrationTimeout (a : AxisId) (s : State) : Host.Outcome State Fault Refusal :=
  let x := s.axes[a]
  .next <|
    if x.cal.outcome = .running ∧ x.cal.sampleLimit ≤ x.cal.seen + 1 then
      applyCalEnd s a (calibrationTimesOut x { x.cal with seen := x.cal.seen + 1 })
    else s

end Sys2Proof.Machine
end

