-- ==== Sys2Proof/Machine/Flags.lean ====
section
/-! DEFINITION. The flags and outputs that are functions of the state: attention pending and the ATTN lamp (R195), the
LINK lamp (R22), the flagged tainting kinds (R194), the offer condition and the offer (R164, R165, R169), the flush age (R166), and whether an
insert frame is waiting (R14). -/

namespace Sys2Proof.Machine

/-- The part has a station number (R11). -/
def assigned (s : State) : Bool :=
  s.cpt.station != 0

/-- Attention is pending (R195): an attention-routed kind is flagged, or an attention source is set. -/
def attentionPending (f : Fmn) : Bool :=
  (List.finRange 23).any (fun i => f.flags[i] && f.routes[i].attention) || f.operationEnded || f.queueWatermark

/-- The ATTN output (R195): lit while attention is pending, assigned or not. -/
def attnOutput (s : State) : Bool :=
  attentionPending s.fmn

/-- The LINK output (R22): lit while the part is assigned, a link time is established and the chain is not down. -/
def linkOutput (s : State) : Bool :=
  assigned s && s.cpt.established && !s.cpt.down

/-- Some kind whose taint switch is on is flagged (R194). -/
def taintFlagged (f : Fmn) : Bool :=
  (List.finRange 23).any fun i => f.flags[i] && f.routes[i].taint

/-- The raise is of a kind whose taint switch is on (R194). -/
def taints (f : Fmn) (m : RaiseMsg) : Bool :=
  (f.routes[m.kind.index]).taint

/-- The flush age of the oldest record is due at the observed link time that now stands (R166), whether or not the
chain is down or a link time is established: the model's reading of a rule that says both (log 36). -/
def ageDueNow (s : State) : Bool :=
  match s.rqu.queue with
  | [] => false
  | q :: _ => s.rqu.delivery.interval != 0 && later s.cpt.observed (after q.body.time s.rqu.delivery.interval)

/-- The offer condition of RQU's mode holds (R165 for PUSH, R169 for PULL), whatever the reader station. -/
def offerCondition (q : Rqu) : Bool :=
  if q.delivery.pull then decide (0 < q.drain)
  else decide (q.delivery.watermark ≤ q.queue.length) || q.ageDue || decide (0 < q.drain)

/-- RQU offers a record frame (R164): the reader station is not 0, there is a record, and the offer condition holds. -/
def offerHolds (s : State) : Bool :=
  s.rqu.delivery.reader != 0 && !s.rqu.queue.isEmpty && offerCondition s.rqu

/-- An insert frame is waiting (R14). -/
def insertWaiting (s : State) : Bool :=
  !s.mga.responses.isEmpty || offerHolds s

/-- The fairness count returns to 0 whenever no insert frame is waiting (R15). -/
def State.settleFairness (s : State) : State :=
  if insertWaiting s then s else s.modCpt fun c => { c with fairness := 0 }

/-- RQU examines the flush age anew (R166). -/
def State.refreshAge (s : State) : State :=
  let due := ageDueNow s
  s.modRqu fun r => { r with ageDue := due }

/-- A FULL RESET has been taken and what it waits for has happened (R187): its DONE response, or the forwarded copy of
its broadcast frame, is no longer waiting for the transmitter. -/
def resetBegun (s : State) : Bool :=
  match s.mga.resetWait with
  | none => false
  | some .response => !s.mga.responses.any (·.endsInReset)
  | some (.copy n) => !s.cpt.forward.any (fun f => f.copyOf == some n)

/-- The blocks that take a RESTART as an event of their own (R186). -/
def restartBlocks : List Block :=
  [.cpt, .sfl, .axe 0, .axe 1, .axe 2, .axe 3, .axe 4, .axe 5, .scu, .cap, .rqu, .fmn]

/-- A RESTART has been taken by some block and not yet by every block (R186). -/
def restartUnderWay (m : Mga) : Bool :=
  !m.restartLeft.isEmpty && decide (m.restartLeft.length < restartBlocks.length)

/-- R16: a reset has begun and not taken effect; the transmitter takes no new frame (log 17). -/
def transmitHeld (s : State) : Bool :=
  resetBegun s || restartUnderWay s.mga

end Sys2Proof.Machine
end

