-- ==== Sys2Proof/Machine/Monitor.lean ====
section
/-! DEFINITION. FMN, the Fault Monitor, taking raises, attention sources and event reports (chapter 12). The rows
ERROR_RAISE, ATTENTION_SOURCE_RAISE and EVENT_REPORT. -/

namespace Sys2Proof.Machine

/-- R190, steps 1 and 2, of `times` equal raises: the kind's flag is set and its count increased, to 255 at most. -/
def recordRaise (k : ErrorKind) (times : Nat) (f : Fmn) : Fmn :=
  { f with
    flags := f.flags.set k.index.val true k.index.isLt
    counts := modifyAt f.counts k.index fun n => min 255 (n + times) }

/-- R191: an empty FIRST record is filled; a filled one is left. -/
def fillFirst (k : ErrorKind) (subject : Nat) (detail : BitVec 32) (now : Time) (f : Fmn) : Fmn :=
  { f with first := match f.first with
      | none => some ⟨k, subject, now, detail⟩
      | some x => some x }

/-- R190: FMN takes `times` equal raises one after another; each of a halt-routed kind is reported to CAP (R194). -/
def takeRaises (m : RaiseMsg) (times : Nat) (s : State) : State :=
  let now := s.cpt.observed
  let s := s.modFmn fun f => fillFirst m.kind m.subject m.detail now (recordRaise m.kind times f)
  if (s.fmn.routes[m.kind.index]).halt then s.modBus fun b => { b with halts := b.halts + times } else s

/-! ### The completion query (R194) -/

/-- The raise taints, or a tainting raise of the same block stands behind it, which FMN cannot take before it. -/
def beforeTaint (f : Fmn) (m : RaiseMsg) (behind : List RaiseMsg) : Bool :=
  taints f m || behind.any fun x => x.source == m.source && taints f x

/-- FMN takes every tainting raise of the list, and what the same block made before it; the others are left. Those of
different blocks it takes in the order they were handed over, which decides FIRST (R191 leaves it open: log 45). -/
def takeTaints : List RaiseMsg → State → State × List RaiseMsg
  | [], s => (s, [])
  | m :: rest, s =>
      if beforeTaint s.fmn m rest then takeTaints rest (takeRaises m (m.more + 1) s)
      else
        let (s', left) := takeTaints rest s
        (s', m :: left)

/-- FMN has taken every tainting raise on its way, in the order of log 45. -/
def State.taintsTaken (s : State) : State :=
  let (s', left) := takeTaints s.bus.raises s
  s'.modBus fun b => { b with raises := left }

/-- FMN's answer to a record-completion query (R194): some tainting kind is flagged. A tainting raise still on its way
is taken before the query or after it, as the free value of log 5 decides. -/
def taintAnswer (s : State) : Bool :=
  taintFlagged s.fmn || (s.bus.raises.any (taints s.fmn) && Config.raiseTakenFirst s.freeIndex)

/-- R194: the part after a completion query. Before or after it, FMN has taken every tainting raise on its way, so the
record completed next is tainted (log 5). -/
def State.afterQuery (s : State) : State :=
  { s.taintsTaken with freeIndex := s.freeIndex + 1 }

/-! ### Attention sources and event reports -/

/-- R195: FMN sets an attention source. -/
def setSource (w : AttentionSource) (f : Fmn) : Fmn :=
  match w with
  | .operationEnded => { f with operationEnded := true }
  | .queueWatermark => { f with queueWatermark := true }

/-- R197: one report adds 1 to every counter that selects the event, to 2^32 − 1 at most. -/
def countEvent (e : Event) (f : Fmn) : Fmn :=
  { f with counters := Vector.ofFn fun j : Fin 8 =>
      if f.selections[j] = e.number then min 4294967295 (f.counters[j] + 1) else f.counters[j] }

/-- ERROR_RAISE (R190): FMN takes the oldest raise that `source` has made; with none, nothing happens. -/
def execErrorRaise (source : Block) (s : State) : Host.Outcome State Fault Refusal :=
  .next <| match takeFirst (fun m : RaiseMsg => m.source == source) s.bus.raises with
    | none => s
    | some (m, rest) =>
        let left := if m.more = 0 then rest else { m with more := m.more - 1 } :: rest
        takeRaises m 1 (s.modBus fun b => { b with raises := left })

/-- ATTENTION_SOURCE_RAISE (R195): FMN takes the oldest attention source that `source` has raised; with none, nothing
happens. -/
def execAttentionSourceRaise (source : Block) (s : State) : Host.Outcome State Fault Refusal :=
  .next <| match takeFirst (fun m : SourceMsg => m.source == source) s.bus.sources with
    | none => s
    | some (m, rest) => (s.modBus fun b => { b with sources := rest }).modFmn (setSource m.which)

/-- EVENT_REPORT (R197): FMN takes the oldest event report that `source` has made; with none, nothing happens. -/
def execEventReport (source : Block) (s : State) : Host.Outcome State Fault Refusal :=
  .next <| match takeFirst (fun m : ReportMsg => m.source == source) s.bus.reports with
    | none => s
    | some (m, rest) =>
        let left := if m.more = 0 then rest else { m with more := m.more - 1 } :: rest
        (s.modBus fun b => { b with reports := left }).modFmn (countEvent m.event)

end Sys2Proof.Machine
end

