-- ==== Sys2Proof/Machine/Scaling.lean ====
section
/-! DEFINITION. SCU, the Scaling Unit: scale factors, environment groups, dead path, positions and composite values
(chapter 5). The rows ENV_VALUE and GROUP_STALE. -/

namespace Sys2Proof.Machine

/-- R82: the effective scale factor for the applied index excess x. -/
def effectiveFactor (fVac : Nat) (x : Int) : Int :=
  ((fVac : Int) * 1000000000 + (1000000000 + x) / 2) / (1000000000 + x)

/-- R83: the length of a count. -/
def lengthOf (count factor : Int) : Int :=
  (count * factor + 8388608) / 16777216

/-- R89: the dead-path term. -/
def deadPathTerm (deadPath : Nat) (xRef applied : Int) : Int :=
  ((deadPath : Int) * (xRef - applied) + 500) / 1000

/-- The sign setting as a factor. -/
def signOf (st : AxisSettings) : Int :=
  if st.negative then -1 else 1

/-- sgn · Lp of a count at an applied index excess (R82, R83, R90). -/
def signedLength (st : AxisSettings) (count applied : Int) : Int :=
  signOf st * lengthOf count (effectiveFactor st.fVac applied)

/-- R90: the sum sgn · Lp + dp + O, before its limit. -/
def rawPosition (x : Axis) (count applied : Int) : Int :=
  signedLength x.settings count applied + deadPathTerm x.settings.deadPath x.ctx.xRef applied + x.ctx.offset

/-- R90, R100: the detail of POSITION_SATURATED for a position out of range: 3 upper, 4 lower. -/
def saturationDetail (sum : Int) : Int :=
  if 0 < sum then 3 else 4

/-- R90, R91: the position of a count of axis a as SCU forms it now. -/
def positionOf (s : State) (a : AxisId) (count : Int) : Int :=
  saturate (rawPosition s.axes[a] count (appliedOf s (s.axes[a]).settings.group))

/-- R90: raised when the position of a resolution had to be limited. -/
def raiseSaturated (s : State) (subject : Nat) (sum : Int) : State :=
  if within48 sum then s else s.raise .scu .positionSaturated subject (saturationDetail sum)

/-- R91: the stale mark of a field of axis a resolved now. -/
def staleMark (s : State) (a : AxisId) : Bool :=
  match (s.axes[a]).settings.group with
  | none => false
  | some g => (s.scu.groups[g]).stale

/-! ### Composite values (R96 to R100) -/

/-- The severity order OK, RELATIVE, UNSURE of R98. -/
def worse (x y : FieldStatus) : FieldStatus :=
  if x = .unsure ∨ y = .unsure then .unsure else if x = .relative ∨ y = .relative then .relative else .ok

/-- R99: the reason of a composite without a value: input a's if it has none, else input b's. -/
def missingReason (fa fb : Field) : FieldStatus :=
  match fa, fb with
  | .absent st, _ => st
  | _, .absent st => st
  | _, _ => .off

/-- R99: the status of a fallback value. -/
def fallbackStatus (other : FieldStatus) : FieldStatus :=
  if other = .unsure then .unsure else .fallback

/-- R96, R97, R98, R99: a composite's field from its two inputs, before the limit of R100. -/
def compositeField (e : CompositeEntry) (fa fb : Field) : Field :=
  match e, fa, fb with
  | .weighted _ _ wa wb _, .value sa pa ma, .value sb pb mb =>
      .value (worse sa sb) ((wa * pa + wb * pb + 8192) / 16384) (ma || mb)
  | .diffRatio _ _ sep, .value sa pa ma, .value sb pb mb =>
      .value (worse sa sb) ((2 * (pa - pb) + sep) / (2 * sep)) (ma || mb)
  | .weighted _ _ wa wb true, .value sa pa ma, .absent _ =>
      .value (fallbackStatus sa) (((wa + wb) * pa + 8192) / 16384) ma
  | .weighted _ _ wa wb true, .absent _, .value sb pb mb =>
      .value (fallbackStatus sb) (((wa + wb) * pb + 8192) / 16384) mb
  | _, fa, fb => .absent (missingReason fa fb)

/-- R100: a field's position limited to ±(2^47 − 1). -/
def limitField (f : Field) : Field :=
  match f with
  | .value st p m => .value st (saturate p) m
  | other => other

/-- R100: POSITION_SATURATED for a composite value that had to be limited. -/
def raiseComposite (s : State) (c : Fin 4) (f : Field) : State :=
  match f with
  | .value _ p _ => raiseSaturated s (6 + c.val) p
  | _ => s

/-! ### Environment groups (R84 to R86) -/

/-- The limit of an index excess (R84). -/
def indexLimit : Int := 1000000

/-- R85, step 3: the applied value moves to v, or by the slew limit toward it. -/
def slewed (slew : Nat) (applied v : Int) : Int :=
  if slew = 0 ∨ |v - applied| ≤ slew then v else if 0 < v - applied then applied + slew else applied - slew

/-- R85: SCU takes an air-index value for a group. By step 2 every value replaces the last received value, also one that
equals the applied value, of which R85 ends that it changes nothing but the last value time and the stale flag (log 41). -/
def takeEnvValue (m : EnvMsg) (s : State) : State :=
  let g := s.scu.groups[m.group]
  let v := clamp (-indexLimit) indexLimit m.value
  let d := v - g.applied
  let applied := slewed g.slewLimit g.applied v
  let s := if v = m.value then s else s.raise .scu .envClamped m.group.val m.value
  let now := s.cpt.observed
  let s := s.modScu fun u =>
    { u with groups := modifyAt u.groups m.group fun g =>
        { g with lastValue := v, lastTime := now, applied := applied, stale := false } }
  if applied = v then s else s.raise .scu .envClamped m.group.val d

/-- R86: a group whose stale deadline is passed at the advance to t goes stale. -/
def checkStale (t : Time) (s : State) (g : GroupId) : State :=
  let x := s.scu.groups[g]
  if !x.stale && later t (after x.lastTime x.staleLimit) then
    (s.modScu fun u => { u with groups := modifyAt u.groups g fun y => { y with stale := true } }).raise
      .scu .envStale g.val x.applied
  else s

/-- ENV_VALUE (R85): SCU takes the oldest value handed to it; with none handed over, nothing happens. -/
def execEnvValue (s : State) : Host.Outcome State Fault Refusal :=
  .next <| match s.bus.envValues with
    | [] => s
    | m :: rest => takeEnvValue m (s.modBus fun b => { b with envValues := rest })

/-- GROUP_STALE (R86): SCU takes the oldest advance handed to it and checks its groups, group 0 first: the order of
several ENV_STALE of one advance is the model's (log 33). With no advance handed over, nothing happens. -/
def execGroupStale (s : State) : Host.Outcome State Fault Refusal :=
  .next <| match s.bus.scuAdvances with
    | [] => s
    | t :: rest => [0, 1, 2, 3].foldl (checkStale t) (s.modBus fun b => { b with scuAdvances := rest })

end Sys2Proof.Machine
end

