-- ==== Sys2Proof/Machine/Windows.lean ====
section
/-! DEFINITION. The Window Table: the order test of ARM, the window of a value, the double test and the gating of an
edge record (chapter 9). -/

namespace Sys2Proof.Machine

/-- The valid entries of the Window Table, 0 … n − 1 (R149). -/
def validWindows (c : Cap) : List WindowEntry :=
  c.windows.toList.take c.header.valid

/-- R151: upper limits strictly increasing, all above the limit before them. -/
def limitsRise : Int → List WindowEntry → Bool
  | _, [] => true
  | lower, w :: ws => decide (lower < w.limit) && limitsRise w.limit ws

/-- R151: test 3 of ARM. -/
def windowsOrdered (c : Cap) : Bool :=
  limitsRise c.header.base (validWindows c)

/-- R152: the window of lowest index with lower ≤ v < limit. -/
def findWindow (v : Int) : Int → List WindowEntry → Option WindowEntry
  | _, [] => none
  | lower, w :: ws => if lower ≤ v ∧ v < w.limit then some w else findWindow v w.limit ws

/-- R152: the valid window that holds v. -/
def windowOf (c : Cap) (v : Int) : Option WindowEntry :=
  findWindow v c.header.base (validWindows c)

/-- R154, test 3: the window does not accept the source or the polarity. -/
def maskedBy (w : WindowEntry) (source : Fin 8) (p : Polarity) : Bool :=
  !w.sources.getLsbD source.val
    || (w.polarity == .rise && p == .fall) || (w.polarity == .fall && p == .rise)

/-- R155: the record is a double of the source's last accepted edge. -/
def isDouble (w : WindowEntry) (last : Option Int) (v : Int) : Bool :=
  match last with
  | none => false
  | some l => w.spacing != 0 && decide (|v - l| < w.spacing)

/-- The five ends of R154. -/
inductive GateResult where
  | outside | gap | masked | double
  | accepted (zone : Nat)
  deriving DecidableEq, Repr

/-- R154: the first test that holds decides. R157 ends that an entry taken before a halt and completed after the ARM cannot
be a double; by R155 and R156 it can, once another edge of its source has been accepted since that ARM, and they are
followed here (log 39). -/
def gate (c : Cap) (source : Fin 8) (p : Polarity) (v : Int) : GateResult :=
  match windowOf c v with
  | none => .outside
  | some w =>
      if w.gap then .gap
      else if maskedBy w source p then .masked
      else if isDouble w c.lastEdge[source] v then .double
      else .accepted w.zone

/-- R160: a record is handed to RQU. -/
def handRecord (r : Record) (s : State) : State :=
  s.modBus fun b => { b with records := b.records ++ [r] }

/-- R154: a gated record with the window value v of marker source `source` is discarded or handed on. -/
def gateRecord (source : Fin 8) (v : Int) (r : Record) (s : State) : State :=
  match gate s.cap source r.polarity v with
  | .outside => s.report .cap .outsideWindow
  | .gap => s.report .cap .gapWindow
  | .masked => s.report .cap .masked
  | .double => s.report .cap .doubleEdges
  | .accepted zone =>
      handRecord { r with zone := zone }
        (s.modCap fun c => { c with lastEdge := modifyAt c.lastEdge source fun _ => some v })

end Sys2Proof.Machine
end

