-- ==== Sys2Proof/Machine/Capture.lean ====
section
/-! DEFINITION. CAP, the Capture Unit: triggers, pending entries, the resolution of their fields, completion and record
assembly (chapter 8). The rows EDGE_TRIGGER, REFERENCE_EVENT, CAPTURE_TIMEOUT, COMPARE_FIRE and HALT. -/

namespace Sys2Proof.Machine

/-! ### Fields of an entry -/

/-- The raw axis a is an input of the composite entry. -/
def usesInput (e : CompositeEntry) (a : AxisId) : Bool :=
  match e with
  | .unused => false
  | .weighted x y _ _ _ => x == a || y == a
  | .diffRatio x y _ => x == a || y == a

/-- A trigger offered to CAP (R128). -/
structure Trigger where
  kind : TriggerKind
  source : SourceId
  polarity : Polarity
  time : Time
  deriving DecidableEq, Repr

/-- R137: the copied window axis of an EDGE entry whose gated flag is on. -/
def copiedWindowAxis (c : Cap) (t : Trigger) : Option (Fin 10) :=
  if t.kind = .edge ∧ (c.map[t.source]).gated then some c.header.axis else none

/-- R137: the composite copies of an entry: composites its record mask or its copied window axis names. -/
def copiesFor (u : Scu) (mask : BitVec 10) (window : Option (Fin 10)) : Vector (Option CompositeEntry) 4 :=
  Vector.ofFn fun c : Fin 4 =>
    if mask.getLsbD (6 + c.val) || window.map (·.val) == some (6 + c.val) then some u.composites[c] else none

/-- R137: the entry awaits raw axis a. -/
def awaits (mask : BitVec 10) (window : Option (Fin 10)) (zeroMark : Option AxisId)
    (copies : Vector (Option CompositeEntry) 4) (a : AxisId) : Bool :=
  mask.getLsbD a.val || window.map (·.val) == some a.val || zeroMark == some a
    || copies.toList.any fun c => match c with
        | some e => usesInput e a
        | none => false

/-- R137: a new entry for a trigger. `record` is its record request, `zeroMark` the axis it resolves a zero for. -/
def newEntry (s : State) (t : Trigger) (record : Bool) (zeroMark : Option AxisId) : Entry :=
  let mapped := s.cap.map[t.source]
  let mask := if record then mapped.mask else 0
  let window := copiedWindowAxis s.cap t
  let copies := copiesFor s.scu mask window
  { id := s.cap.nextId, kind := t.kind, source := t.source, polarity := t.polarity, time := t.time
    record, mask, gated := mapped.gated, zeroMark, windowAxis := window, copies
    raw := Vector.ofFn fun a : AxisId => if awaits mask window zeroMark copies a then some .waiting else none
    composite := Vector.ofFn fun c : Fin 4 => (copies[c]).map fun e => match e with
      | .unused => .absent .off
      | _ => .waiting }

/-- The field of axis x, 0 … 9, of an entry. -/
def Entry.field (e : Entry) (x : Fin 10) : Option Field :=
  if h : x.val < 6 then e.raw[x.val] else e.composite[x.val - 6]'(by omega)

/-- R144: all raw and composite fields have resolved. -/
def Entry.complete (e : Entry) : Bool :=
  e.raw.toList.all (fun f => f != some .waiting) && e.composite.toList.all (fun f => f != some .waiting)

/-- The raw field of axis a is awaited and not resolved. -/
def Entry.waitsFor (e : Entry) (a : AxisId) : Bool :=
  e.raw[a] == some .waiting

/-- The raw field of axis a resolved. -/
def Entry.resolve (e : Entry) (a : AxisId) (f : Field) : Entry :=
  { e with raw := e.raw.set a.val (some f) a.isLt }

/-! ### Resolution (R139 to R143) -/

/-- What R139 finds for a raw field. -/
inductive FieldTest where
  | bracket (h0 h1 : HistEntry)
  | late
  | off
  | waiting
  deriving DecidableEq, Repr

/-- R139: t is earlier than the oldest entry of the ring: the entry is later than t, which exactly 2^47 ticks away does
not hold (log 31). -/
def olderThanRing (ring : List HistEntry) (t : Time) : Bool :=
  match ring with
  | [] => false
  | h :: _ => later h.time t

/-- R139: the first case that holds decides. Some 2^47 ticks away from the ring a time may be earlier than its oldest
entry and have a bracket by R72's words for h0 and h1; the bracket is tested first (log 35). -/
def testField (c : AxisContext) (t : Time) : FieldTest :=
  match bracketBefore c.ring t, bracketAfter c.ring t with
  | some h0, some h1 => .bracket h0 h1
  | _, _ => if olderThanRing c.ring t then .late else if c.counting then .waiting else .off

/-- R140, R105: CAP hands the outcome of a zero field to its engine. -/
def handOutcome (e : Entry) (a : AxisId) (r : ZeroResult) (s : State) : State :=
  if e.zeroMark = some a then s.tellZero a (.outcome e.id r) else s

/-- R139, R140: a waiting raw field of axis a is tested and resolved if it can be. It raises what R139 and R90 say also in
an entry that ZERO CANCEL has unmarked and that requests no record (R111, log 42). -/
def testRaw (a : AxisId) (s : State) (e : Entry) : State × Entry :=
  if e.waitsFor a then
    match testField (s.axes[a]).ctx e.time with
    | .bracket h0 h1 =>
        let count := interpolate h0 h1 e.time
        let sum := rawPosition s.axes[a] count (appliedOf s (s.axes[a]).settings.group)
        (handOutcome e a (.bracket count h1.slip e.time) (raiseSaturated s a.val sum),
          e.resolve a (.value (bracketStatus h0 h1) (saturate sum) (staleMark s a)))
    | .late =>
        (handOutcome e a .late (s.raise .cap .captureLate a.val e.source.val), e.resolve a (.absent .late))
    | .off => (handOutcome e a .off s, e.resolve a (.absent .off))
    | .waiting => (s, e)
  else (s, e)

/-- R141: a waiting raw field of axis a resolves TIMEOUT, with CAPTURE_TIMEOUT also in an entry that ZERO CANCEL has
unmarked and that requests no record (R111, log 42). -/
def timeoutRaw (a : AxisId) (s : State) (e : Entry) : State × Entry :=
  if e.waitsFor a then
    (handOutcome e a .timeout (s.raise .cap .captureTimeout a.val e.source.val), e.resolve a (.absent .timeout))
  else (s, e)

/-- R142: a waiting raw field of a stopped axis resolves OFF; no outcome is handed. -/
def stopRaw (a : AxisId) (s : State) (e : Entry) : State × Entry :=
  if e.waitsFor a then (s, e.resolve a (.absent .off)) else (s, e)

/-- The inputs of a copied composite. -/
def compositeInputs (e : CompositeEntry) : Option (AxisId × AxisId) :=
  match e with
  | .unused => none
  | .weighted a b _ _ _ => some (a, b)
  | .diffRatio a b _ => some (a, b)

/-- A raw field that has resolved. -/
def resolvedField (f : Option Field) : Option Field :=
  match f with
  | some .waiting => none
  | other => other

/-- R96 to R100, R143: a waiting composite field whose two inputs have resolved is resolved, with its
POSITION_SATURATED raised (R100; its place among the raises of one event: log 43). -/
def settleComposite (se : State × Entry) (c : Fin 4) : State × Entry :=
  let (s, e) := se
  if e.composite[c] = some .waiting then
    match e.copies[c] with
    | some entry =>
        match compositeInputs entry with
        | some (a, b) =>
            match resolvedField e.raw[a], resolvedField e.raw[b] with
            | some fa, some fb =>
                let f := compositeField entry fa fb
                (raiseComposite s c f,
                  { e with composite := e.composite.set c.val (some (limitField f)) c.isLt })
            | _, _ => se
        | none => se
    | none => se
  else se

/-- R143: the composite fields of an entry after all its raw fields, in ascending order, which is the order of their
POSITION_SATURATED raises (log 43). -/
def settleComposites (se : State × Entry) : State × Entry :=
  [0, 1, 2, 3].foldl settleComposite se

/-! ### Completion and the record (R144, R145) -/

/-- One axis entry of the record; a status without a value carries 0 (R6). -/
def axisEntryOf (e : Entry) (x : Fin 10) : AxisEntry :=
  match e.field x with
  | some (.value st p _) => ⟨x.val, st, p⟩
  | some (.absent st) => ⟨x.val, st, 0⟩
  | _ => ⟨x.val, .off, 0⟩

/-- The axis's field carries the stale mark. -/
def fieldStale (e : Entry) (x : Fin 10) : Bool :=
  match e.field x with
  | some (.value _ _ m) => m
  | _ => false

/-- The axes of the record mask, ascending. -/
def maskAxes (mask : BitVec 10) : List (Fin 10) :=
  (List.finRange 10).filter fun x => mask.getLsbD x.val

/-- R145, steps 1 to 4: the record before gating. -/
def assemble (s : State) (e : Entry) : Record :=
  { kind := e.kind, source := e.source, polarity := e.polarity, zone := 255, time := e.time
    taint := taintAnswer s, ungated := false
    envStale := (maskAxes e.mask).any (fieldStale e)
    fields := (maskAxes e.mask).map (axisEntryOf e) }

/-- R145, step 5, and R153: gating, or passing on ungated. -/
def gateOrPass (e : Entry) (r : Record) (s : State) : State :=
  match e.windowAxis, finOf 8 e.source.val with
  | some x, some source =>
      match e.field x with
      | some (.value _ v _) => gateRecord source v r s
      | _ => handRecord { r with ungated := true } s
  | _, _ => handRecord r s

/-- R144, R145: an entry that completes leaves the list; one that requests a record becomes a record. -/
def completeEntry (s : State) (e : Entry) : State :=
  if e.record then
    let s := s.report .cap .entriesCompleted
    gateOrPass e (assemble s e) s.afterQuery
  else s

/-- One event's work on the listed entries, in list order: each entry is worked on, its composites are resolved, and
it stays in the list or, if complete, leaves it (R144). -/
def sweep (work : State → Entry → State × Entry) : List Entry → State → State × List Entry
  | [], s => (s, [])
  | e :: es, s =>
      let (s1, e1) := settleComposites (work s e)
      if e1.complete then sweep work es (completeEntry s1 e1)
      else
        let (s2, kept) := sweep work es s1
        (s2, e1 :: kept)

/-- The sweep applied to CAP's pending list. -/
def State.sweepPending (s : State) (work : State → Entry → State × Entry) : State :=
  let (s', kept) := sweep work s.cap.entries s
  s'.modCap fun c => { c with entries := kept }

/-- R139: CAP examines the fields that await axis a after an accepted sample. -/
def examineAxis (a : AxisId) (s : State) : State :=
  s.sweepPending (testRaw a)

/-- R142: CAP resolves OFF every waiting field of a stopped axis. -/
def resolveStopped (a : AxisId) (s : State) : State :=
  s.sweepPending (stopRaw a)

/-- R141: the entry's deadline is passed at link time t. -/
def deadlinePassed (timeout : Nat) (t : Time) (e : Entry) : Bool :=
  later t (after e.time timeout)

/-- R141: every waiting raw field of an entry resolves TIMEOUT, in ascending axis order. -/
def timeoutAll (s : State) (e : Entry) : State × Entry :=
  allAxes.foldl (fun se a => timeoutRaw a se.1 se.2) (s, e)

/-- R141: the timeout test at link time t. -/
def timeoutTest (timeout : Nat) (t : Time) (s : State) (e : Entry) : State × Entry :=
  if deadlinePassed timeout t e then timeoutAll s e else (s, e)

/-! ### Taking a trigger (R133, R138) -/

/-- R138: PENDING_FULL and the event of a trigger dropped by a full list. -/
def dropTrigger (t : Trigger) (s : State) : State :=
  (s.raise .cap .pendingFull t.source.val t.kind.code).report .cap .triggersDropped

/-- R138: the fields of a new entry tested in the event that took it: brackets, composites, then the timeout test of
R141, by the observed link time that stands, in every state of the chain (R19; log 44). -/
def testNew (s : State) (e : Entry) : State × Entry :=
  let se := settleComposites (allAxes.foldl (fun se a => testRaw a se.1 se.2) (s, e))
  settleComposites (timeoutTest se.1.cap.timeout se.1.cpt.observed se.1 se.2)

/-- R138: the entry joins the end of the list, or completes at once. -/
def placeEntry (e : Entry) (s : State) : State :=
  let (s, e) := testNew (if e.record then s.report .cap .triggersTaken else s) e
  if e.complete then completeEntry s e else s.modCap fun c => { c with entries := c.entries ++ [e] }

/-- R138: a trigger is taken into the pending list, or dropped by a full one. -/
def takeTrigger (t : Trigger) (record : Bool) (zeroMark : Option AxisId) (s : State) : State :=
  if Config.pendingDepth ≤ s.cap.entries.length then dropTrigger t s
  else
    let e := newEntry s t record zeroMark
    placeEntry e (s.modCap fun c => { c with nextId := c.nextId + 1 })

/-- The mask of the trigger's Capture Map entry is empty (R133). -/
def maskEmpty (s : State) (source : SourceId) : Bool :=
  (s.cap.map[source]).mask == 0

/-- R133: an EDGE or TIMED trigger, or a REFERENCE trigger that starts no zero. -/
def offerOrdinary (t : Trigger) (s : State) : State :=
  if maskEmpty s t.source then s
  else match s.cap.state with
    | .stopped => s
    | .armed => takeTrigger t true none s
    | .halted => s.report .cap .triggersDropped

/-- R104: a reference event whose axis is WAITING places a zero-resolution entry and tells the engine. -/
def takeForZero (t : Trigger) (a : AxisId) (s : State) : State :=
  let record := s.cap.state == .armed && !maskEmpty s t.source
  if Config.pendingDepth ≤ s.cap.entries.length then dropTrigger t s
  else takeTrigger t record (some a) (s.tellZero a (.placed s.cap.nextId (s.axes[a]).arming))

/-- R147: CAP has taken a RESTART that the engine of axis a has still to take. -/
def restartAhead (m : Mga) (a : AxisId) : Bool :=
  m.restartLeft.contains (.axe a) && !m.restartLeft.contains .cap

/-- The zero state that CAP finds for a reference event of axis a (R104); after a RESTART it finds every axis with NONE,
taken by the engine or not (R147). -/
def zeroFound (s : State) (a : AxisId) : ZeroState :=
  if restartAhead s.mga a then .none else (s.axes[a]).ctx.zero

/-- R104, R133, R147: a reference event by the zero state of its axis. -/
def offerReference (t : Trigger) (a : AxisId) (s : State) : State :=
  if zeroFound s a = .waiting then takeForZero t a s else offerOrdinary t s

/-- The trigger of a marker event (R128). -/
def markerTrigger (m : MarkerMsg) : Trigger :=
  { kind := if m.reference.isSome then .reference else .edge
    source := m.source.castLE (by decide), polarity := m.polarity, time := m.time }

/-- EDGE_TRIGGER (R133): CAP takes the oldest marker event handed over, if it is an edge trigger. -/
def execEdgeTrigger (s : State) : Host.Outcome State Fault Refusal :=
  .next <| match s.bus.markers with
    | m :: rest =>
        match m.reference with
        | none => offerOrdinary (markerTrigger m) (s.modBus fun b => { b with markers := rest })
        | some _ => s
    | [] => s

/-- REFERENCE_EVENT (R104): CAP takes the oldest marker event handed over, if it is a reference event. -/
def execReferenceEvent (s : State) : Host.Outcome State Fault Refusal :=
  .next <| match s.bus.markers with
    | m :: rest =>
        match m.reference with
        | none => s
        | some a => offerReference (markerTrigger m) a (s.modBus fun b => { b with markers := rest })
    | [] => s

/-! ### Advances (R131, R141) -/

/-- CAPTURE_TIMEOUT (R141): CAP takes the oldest advance handed over and applies the timeout test to every listed
entry; the slots are examined at the same link time afterwards (log 10). -/
def execCaptureTimeout (s : State) : Host.Outcome State Fault Refusal :=
  .next <| match s.bus.capAdvances with
    | [] => s
    | t :: rest =>
        let s := s.modBus fun b => { b with capAdvances := rest, slotChecks := b.slotChecks ++ [t] }
        s.sweepPending (timeoutTest s.cap.timeout t)

/-- R131: the firings a periodic slot skips: floor(d / p). -/
def skippedFirings (slot : CompareSlot) (t : Time) : Nat :=
  (t - slot.next).toNat / slot.period

/-- R131, steps 2 and 3: the slot after it has fired at link time t. -/
def slotAfter (slot : CompareSlot) (t : Time) : CompareSlot :=
  if slot.period = 0 then { slot with enable := false }
  else { slot with next := after slot.next ((skippedFirings slot t + 1) * slot.period) }

/-- The trigger source of compare slot j. -/
def slotSource (j : Fin 4) : SourceId :=
  ⟨8 + j.val, by omega⟩

/-- R131, R189: the detail of COMPARE_MISSED for m skipped firings: m, and for an m that 4 bytes do not hold a free value
(log 38). -/
def missedDetail (m : Nat) : Int :=
  if m ≤ 4294967295 then m else (Config.wideMissed m).toNat

/-- R131: slot j fires at link time t. -/
def fireSlot (j : Fin 4) (t : Time) (s : State) : State :=
  let slot := s.cap.slots[j]
  let missed := if slot.period = 0 then 0 else skippedFirings slot t
  let s := s.report .cap .compareFires
  let s := offerOrdinary ⟨.timed, slotSource j, .none, slot.next⟩ s
  let s := s.modCap fun c => { c with slots := modifyAt c.slots j fun x => slotAfter x t }
  s.raiseTimes .cap .compareMissed (8 + j.val) (missedDetail missed) missed

/-- R131: slot j examined at link time t. It fires when its next time is not later than t, also where the two are equal,
for which R19 would have it wait (log 32). -/
def examineSlot (t : Time) (s : State) (j : Fin 4) : State :=
  let slot := s.cap.slots[j]
  if slot.enable && !later slot.next t then fireSlot j t s else s

/-- COMPARE_FIRE (R131): CAP examines its compare slots at the oldest link time for which CAPTURE_TIMEOUT has been
taken and the slots have not been examined; with none, nothing happens. -/
def execCompareFire (s : State) : Host.Outcome State Fault Refusal :=
  .next <| match s.bus.slotChecks with
    | [] => s
    | t :: rest => [0, 1, 2, 3].foldl (examineSlot t) (s.modBus fun b => { b with slotChecks := rest })

/-- R136: CAP takes a halt report. -/
def haltCapture (c : CaptureState) : CaptureState :=
  match c with
  | .armed => .halted
  | other => other

/-- HALT (R136): CAP takes a halt report of FMN; with none on its way, nothing happens. -/
def execHalt (s : State) : Host.Outcome State Fault Refusal :=
  .next <|
    if s.bus.halts = 0 then s
    else (s.modBus fun b => { b with halts := b.halts - 1 }).modCap fun c => { c with state := haltCapture c.state }

end Sys2Proof.Machine
end

