-- ==== Sys2Proof/Machine/Referencing.lean ====
section
/-! DEFINITION. The zero state of an axis and the application of a zero (chapter 6). The rows ZERO_NOTICE and
ZERO_OUTCOME. -/

namespace Sys2Proof.Machine

/-- R104, R135: what a notice of CAP makes of the zero state of an engine whose current arming is `arming`. -/
def noticeEffect (arming : Nat) (m : ZeroMsg) (z : ZeroState) : ZeroState :=
  match m, z with
  | .placed entry found, .waiting => if found = arming then .resolving entry else .waiting
  | .removed entry, .resolving e => if e = entry then .waiting else .resolving e
  | _, z => z

/-- The engine takes a notice of CAP. -/
def takeNotice (a : AxisId) (m : ZeroMsg) (s : State) : State :=
  s.modAxis a fun x => { x with ctx := { x.ctx with zero := noticeEffect x.arming m x.ctx.zero } }

/-- The oldest message of CAP to the engine of axis a leaves the line. -/
def popZeroMsg (a : AxisId) (s : State) : State :=
  s.modBus fun b => { b with zeroMsgs := modifyAt b.zeroMsgs a (·.drop 1) }

/-- R108: one count shifted by P_ref and limited. -/
def shiftCount (pRef count : Int) : Int :=
  saturate (count - pRef)

/-- R108: the shift of the count or of some entry had to be limited. -/
def shiftLimited (pRef : Int) (c : AxisContext) : Bool :=
  !within48 (c.count - pRef) || c.ring.any fun h => !within48 (h.count - pRef)

/-- R109, on a ring newest first: the entries up to and including the newest slip-flagged one are flagged. -/
def flagRun : List HistEntry → List HistEntry
  | [] => []
  | h :: hs => { h with referenced := true } :: if h.slip then hs else flagRun hs

/-- R109: the referenced flags a zero sets in the ring, oldest first. -/
def flagReferenced (ring : List HistEntry) : List HistEntry :=
  (flagRun ring.reverse).reverse

/-- R107, steps 1 to 6: the context after a zero applied with reference position refPos, applied excess x and link time
now. -/
def applyZero (c : AxisContext) (pRef : Int) (tRef : Time) (refPos applied : Int) (now : Time) : AxisContext :=
  { c with
    count := shiftCount pRef c.count
    ring := flagReferenced (c.ring.map fun h => { h with count := shiftCount pRef h.count })
    offset := refPos, xRef := applied, state := .referenced, zero := .none
    refKind := .zero, refTime := now, markTime := tRef, zeroShift := pRef }

/-- R107: the zero is applied by the engine of axis a. -/
def applyZeroTo (a : AxisId) (pRef : Int) (tRef : Time) (s : State) : State :=
  let x := s.axes[a]
  let limited := shiftLimited pRef x.ctx
  let applied := appliedOf s x.settings.group
  let now := s.cpt.observed
  let s := s.modCtx a fun c => applyZero c pRef tRef x.settings.refPosition applied now
  let s := if limited then s.raise (.axe a) .positionSaturated a.val 5 else s
  s.raiseSource (.axe a) .operationEnded

/-- R106: the zero state returns to WAITING. -/
def zeroWaits (a : AxisId) (s : State) : State :=
  s.modCtx a fun c => { c with zero := .waiting }

/-- R106, R107: an outcome for the entry the zero state is RESOLVING. -/
def takeResult (a : AxisId) (r : ZeroResult) (s : State) : State :=
  match r with
  | .bracket pRef h1Slip tRef =>
      if h1Slip then (zeroWaits a s).raise (.axe a) .referenceUnsure a.val 1
      else if (s.axes[a]).ctx.counting then applyZeroTo a pRef tRef s
      else if (s.axes[a]).ctx.state = .lost then (zeroWaits a s).raise (.axe a) .referenceUnsure a.val 2
      else s
  | _ => zeroWaits a s

/-- R107: an outcome is discarded unless the zero state is RESOLVING for the entry that handed it. -/
def takeOutcome (a : AxisId) (entry : Nat) (r : ZeroResult) (s : State) : State :=
  if (s.axes[a]).ctx.zero = .resolving entry then takeResult a r s else s

/-- ZERO_NOTICE (R104): the engine of axis a takes the oldest message of CAP, if it is a notice. -/
def execZeroNotice (a : AxisId) (s : State) : Host.Outcome State Fault Refusal :=
  .next <| match s.bus.zeroMsgs[a] with
    | .placed entry arming :: _ => takeNotice a (.placed entry arming) (popZeroMsg a s)
    | .removed entry :: _ => takeNotice a (.removed entry) (popZeroMsg a s)
    | _ => s

/-- ZERO_OUTCOME (R106, R107): the engine of axis a takes the oldest message of CAP, if it is an outcome. -/
def execZeroOutcome (a : AxisId) (s : State) : Host.Outcome State Fault Refusal :=
  .next <| match s.bus.zeroMsgs[a] with
    | .outcome entry r :: _ => takeOutcome a entry r (popZeroMsg a s)
    | _ => s

/-- R135: CAP tells the engine of axis a that STOP CAPTURE removed the entry. With no message ahead the engine takes
the notice within the step; otherwise it stands behind them (R104's order, log 9). -/
def noticeRemoved (a : AxisId) (entry : Nat) (s : State) : State :=
  if (s.bus.zeroMsgs[a]).isEmpty then takeNotice a (.removed entry) s else s.tellZero a (.removed entry)

end Sys2Proof.Machine
end

