-- ==== Sys2Proof/Machine/Arrival.lean ====
section
/-! DEFINITION. The events an Axis Engine takes from SFL and CPT: a delivered sample, an advance of the observed link
time and the chain-down loss (R38, R58, R69, R76, R77). -/

namespace Sys2Proof.Machine

/-- R81: the errors of one event of an engine, in their order. -/
def raiseAll (s : State) (a : AxisId) (errors : List (ErrorKind × Int)) : State :=
  errors.foldl (fun s e => s.raise (.axe a) e.1 a.val e.2) s

/-- R69, step 5: CAP examines its fields, then the sample is offered to a running calibration. -/
def afterAcceptance (a : AxisId) (m : SampleMsg) (pc : Nat) (delta : Int) (s : State) : State :=
  let s := (s.report (.axe a) .samplesAccepted)
  offerToCalibration (examineAxis a s) a (some (m.c, m.s, pc, delta))

/-- R61, R62 to R70: a strong sample seen by a started axis. -/
def takeStrong (a : AxisId) (m : SampleMsg) (pc : Nat) (s : State) : State :=
  let x := s.axes[a]
  if x.ctx.state = .acquire then afterAcceptance a m pc 0 (s.modCtx a fun c => startCount c m pc)
  else
    let w := unwrap x.settings x.ctx m.time pc m.period
    let s := raiseAll (s.modCtx a fun c => acceptSample c m pc w) a w.raises
    afterAcceptance a m pc w.delta (if w.slip then s.report (.axe a) .slips else s)

/-- R42 to R45, R60: the context of a seen sample after stages 1 and 2 and the bucket. -/
def seenContext (st : AxisSettings) (c : AxisContext) (m : SampleMsg) (uv : Int × Int) (weak : Bool) : AxisContext :=
  let c := markSeen c m.time
  let c := { c with signal := amplitude2 uv, weak := weakAfter st c.weak weak uv }
  countTowardDecay st (fillBucket c weak)

/-- R58, R59: a sample that passed the stale test. -/
def takeSeen (a : AxisId) (m : SampleMsg) (s : State) : State :=
  let x := s.axes[a]
  let uv := stage1 x.settings m.c m.s
  let weak := judgedWeak x.settings x.ctx.weak m.overrange uv
  let threshold := x.settings.bucketThreshold
  let degraded := reachesThreshold x.settings x.ctx weak
  let s := s.modCtx a fun c => seenContext x.settings c m uv weak
  let s := if degraded then s.raise (.axe a) .signalDegraded a.val threshold else s
  if weak then offerToCalibration (s.report (.axe a) .weakSamples) a none
  else takeStrong a m (phaseOf x.nonlinear uv) s

/-- R58: one sample taken by the engine of axis a. -/
def takeArrival (a : AxisId) (m : SampleMsg) (s : State) : State :=
  let c := (s.axes[a]).ctx
  if c.state = .off then s.report (.axe a) .samplesDiscarded
  else if staleSample c m.time then s.report (.axe a) .staleSamples
  else takeSeen a m s

/-- SAMPLE_ARRIVAL (R58): the engine of axis a takes the oldest sample delivered to it; with none, nothing happens. -/
def execSampleArrival (a : AxisId) (s : State) : Host.Outcome State Fault Refusal :=
  .next <| match s.bus.samples[a] with
    | [] => s
    | m :: _ => takeArrival a m (s.modBus fun b => { b with samples := modifyAt b.samples a (·.drop 1) })

/-- R76, R77: a counting axis enters LOST, with AXIS_LOST and the end of a running calibration. -/
def loseAxis (a : AxisId) (detail : Int) (s : State) : State :=
  let s := s.modCtx a fun c => { c with state := .lost }
  abortCalibration (s.raise (.axe a) .axisLost a.val detail) a

/-- R76: the axis's silence deadline is passed at the advance to t. -/
def silent (x : Axis) (t : Time) : Bool :=
  later t (after x.ctx.silenceRef x.settings.silenceLimit)

/-- R76: the silence check of axis a at the advance to t. -/
def checkSilence (a : AxisId) (t : Time) (s : State) : State :=
  let x := s.axes[a]
  if !silent x t then s
  else if x.ctx.counting then loseAxis a 0 s
  else if x.ctx.state = .acquire ∧ x.ctx.silenceMark = false then
    (s.modCtx a fun c => { c with silenceMark := true }).raise (.axe a) .headSilent a.val x.settings.silenceLimit
  else s

/-- The oldest event of CPT to the engine of axis a leaves the line. -/
def popLinkEvent (a : AxisId) (s : State) : State :=
  s.modBus fun b => { b with linkEvents := modifyAt b.linkEvents a (·.drop 1) }

/-- AXIS_SILENCE (R76): the engine of axis a takes the oldest event CPT handed it, if it is an advance. -/
def execAxisSilence (a : AxisId) (s : State) : Host.Outcome State Fault Refusal :=
  .next <| match s.bus.linkEvents[a] with
    | .advance t :: _ => checkSilence a t (popLinkEvent a s)
    | _ => s

/-- AXIS_CHAIN_LOSS (R77): the engine of axis a takes the oldest event CPT handed it, if it is the chain-down loss. -/
def execAxisChainLoss (a : AxisId) (s : State) : Host.Outcome State Fault Refusal :=
  .next <| match s.bus.linkEvents[a] with
    | .loss :: _ =>
        let s := popLinkEvent a s
        if (s.axes[a]).ctx.counting then loseAxis a 1 s else s
    | _ => s

end Sys2Proof.Machine
end

