-- ==== Sys2Proof/Machine/Operands.lean ====
section
/-! DEFINITION. The operand forms: the requests a MANAGE payload spells (R176, R179) and the entry encodings of the
twelve configuration tables (R180, R184). A reader answers `none` where a field lies outside its range (R182). -/

namespace Sys2Proof.Machine

/-! ### Requests (R176, R179) -/

/-- The request set of section 11.2. -/
inductive RequestOp where
  | identify | readTable | writeTable | axisStart | axisStop | zeroAtReference | zeroCancel | preset | accept
  | calibrate | calibrateAbort | axisStatus | arm | stopCapture | manualCapture | drain | flushQueue | queueStatus
  | readErrors | clearErrors | readCounters | clearCounters | restart | fullReset
  deriving DecidableEq, Repr

/-- R179: the request that a code names. -/
def requestOfCode : Nat → Option RequestOp
  | 0x01 => some .identify | 0x02 => some .readTable | 0x03 => some .writeTable
  | 0x10 => some .axisStart | 0x11 => some .axisStop | 0x12 => some .zeroAtReference | 0x13 => some .zeroCancel
  | 0x14 => some .preset | 0x15 => some .accept | 0x16 => some .calibrate | 0x17 => some .calibrateAbort
  | 0x18 => some .axisStatus
  | 0x20 => some .arm | 0x21 => some .stopCapture | 0x22 => some .manualCapture | 0x23 => some .drain
  | 0x24 => some .flushQueue | 0x25 => some .queueStatus
  | 0x30 => some .readErrors | 0x31 => some .clearErrors | 0x32 => some .readCounters | 0x33 => some .clearCounters
  | 0x3E => some .restart | 0x3F => some .fullReset
  | _ => none

/-- The request code, subject and index of a payload, 0 where the payload ends before them (R176). -/
def Request.code (r : Request) : Nat := field r.payload 0 1
def Request.subject (r : Request) : Nat := field r.payload 1 1
def Request.index (r : Request) : Nat := field r.payload 2 2
def Request.args (r : Request) : List Byte := r.payload.drop 4

/-- R176: the request, unless its payload is shorter than 4 bytes or its code is outside the set. -/
def Request.op (r : Request) : Option RequestOp :=
  if r.payload.length < 4 then none else requestOfCode r.code

/-- The subject read as an axis (R179). -/
def Request.axis (r : Request) : Option AxisId := finOf 6 r.subject

/-- The argument bytes a request needs before MGA hands it on (R176, R179, R181). WRITE TABLE's belong to its owner's
range step (R182). -/
def neededArgs : RequestOp → Nat
  | .preset => 6 | .calibrate => 5 | .drain => 1 | .clearErrors => 4 | .clearCounters => 1 | .readTable => 1
  | .identify | .writeTable | .axisStart | .axisStop | .zeroAtReference | .zeroCancel | .accept | .calibrateAbort
  | .axisStatus | .arm | .stopCapture | .manualCapture | .flushQueue | .queueStatus | .readErrors | .readCounters
  | .restart | .fullReset => 0

/-- The access classes of R177: read requests, and DRAIN, which RQU checks, need no controlling station. -/
def anyStation : RequestOp → Bool
  | .identify | .readTable | .axisStatus | .queueStatus | .readErrors | .readCounters | .drain => true
  | .writeTable | .axisStart | .axisStop | .zeroAtReference | .zeroCancel | .preset | .accept | .calibrate
  | .calibrateAbort | .arm | .stopCapture | .manualCapture | .flushQueue | .clearErrors | .clearCounters
  | .restart | .fullReset => false

/-! ### Table entries (R184) -/

/-- A value in lo … hi. -/
def inRange (lo hi x : Int) : Bool :=
  decide (lo ≤ x) && decide (x ≤ hi)

/-- A flag byte: 0 off, 1 on; any other value names no setting (R182). -/
def flagOf (x : Nat) : Option Bool :=
  if x = 0 then some false else if x = 1 then some true else none

/-- The kind part of a SOURCE entry; the channel is ranged with it (R24, R25). -/
def sourceKindOf (b : List Byte) : Option SourceKind :=
  let channel := field b 3 1
  match field b 1 1 with
  | 0 =>
      match finOf 6 (field b 5 1) with
      | some a =>
          if channel ≤ 3 ∧ 50 ≤ field b 8 2 ∧ field b 8 2 ≤ 2000 then some (.samplePair a (field b 8 2)) else none
      | none => none
  | 1 =>
      match finOf 8 (field b 5 1), field b 6 1, finOf 6 (field b 7 1) with
      | some source, 0, _ => if channel ≤ 7 then some (.marker source none) else none
      | some source, 1, some a => if channel ≤ 7 then some (.marker source (some a)) else none
      | _, _, _ => none
  | 2 => if channel = 0 then some .environment else none
  | _ => none

/-- A SOURCE entry read from its 10 bytes: an empty entry's other fields are not tested (R25). -/
def sourceOf (b : List Byte) : Option (Option SourceEntry) :=
  match flagOf (field b 0 1) with
  | none => none
  | some false => some none
  | some true =>
      match sourceKindOf b, flagOf (field b 4 1) with
      | some kind, some forward =>
          if 1 ≤ field b 2 1 ∧ field b 2 1 ≤ 250 then
            some (some { station := field b 2 1, channel := field b 3 1, forward, kind })
          else none
      | _, _ => none

/-- The 10 bytes of a SOURCE entry; fields its kind does not add read as 0 (R24, R25). -/
def sourceBytes (e : Option SourceEntry) : List Byte :=
  match e with
  | none => leBytes 10 0
  | some x =>
      let (kind, five, role, reference, period) := match x.kind with
        | .samplePair a p => (0, a.val, 0, 0, p)
        | .marker m none => (1, m.val, 0, 0, 0)
        | .marker m (some a) => (1, m.val, 1, a.val, 0)
        | .environment => (2, 0, 0, 0, 0)
      [1#8] ++ leBytes 1 kind ++ leBytes 1 x.station ++ leBytes 1 x.channel ++ [flagByte x.forward]
        ++ leBytes 1 five ++ leBytes 1 role ++ leBytes 1 reference ++ leBytes 2 period

/-- R51: every field of an Axis Table entry in its range, and W_lo ≤ W_hi. -/
def settingsInRange (x : AxisSettings) : Bool :=
  inRange (-32768) 32767 x.oC && inRange (-32768) 32767 x.oS && inRange 8192 32768 x.gain
    && inRange (-4096) 4096 x.ks && inRange 16384 16928 x.kc
    && decide (x.wLo ≤ x.wHi) && decide (x.wHi ≤ 32767)
    && decide (1 ≤ x.fVac) && decide (x.fVac ≤ 4294967295) && decide (x.deadPath ≤ 65535)
    && within48 x.refPosition
    && decide (64 ≤ x.slipLimit) && decide (x.slipLimit ≤ 2047) && decide (1 ≤ x.gapLimit) && decide (x.gapLimit ≤ 64)
    && decide (16 ≤ x.decayInterval) && decide (x.decayInterval ≤ 65535)
    && decide (1 ≤ x.bucketThreshold) && decide (x.bucketThreshold ≤ 255)
    && decide (1 ≤ x.overspeedThreshold) && decide (x.overspeedThreshold ≤ 1048575)
    && decide (100 ≤ x.silenceLimit) && decide (x.silenceLimit ≤ 1000000)

/-- The environment group byte: 0 … 3, or 255 for none. -/
def groupOf (x : Nat) : Option (Option GroupId) :=
  if x = 255 then some none else (finOf 4 x).map some

/-- An AXIS entry read from its 43 bytes. -/
def axisSettingsOf (b : List Byte) : Option AxisSettings :=
  match flagOf (field b 0 1), flagOf (field b 19 1), groupOf (field b 20 1) with
  | some enable, some negative, some group =>
      let x : AxisSettings :=
        { enable, oC := signedField b 1 2, oS := signedField b 3 2, gain := field b 5 2, ks := signedField b 7 2
          kc := field b 9 2, wLo := field b 11 2, wHi := field b 13 2, fVac := field b 15 4, negative, group
          deadPath := field b 21 2, refPosition := signedField b 23 6, slipLimit := field b 29 2
          gapLimit := field b 31 1, decayInterval := field b 32 2, bucketThreshold := field b 34 1
          overspeedThreshold := field b 35 4, silenceLimit := field b 39 4 }
      if settingsInRange x then some x else none
  | _, _, _ => none

/-- The 43 bytes of an AXIS entry. -/
def axisSettingsBytes (x : AxisSettings) : List Byte :=
  [flagByte x.enable] ++ leInt 2 x.oC ++ leInt 2 x.oS ++ leInt 2 x.gain ++ leInt 2 x.ks ++ leInt 2 x.kc
    ++ leBytes 2 x.wLo ++ leBytes 2 x.wHi ++ leBytes 4 x.fVac ++ [flagByte x.negative]
    ++ leBytes 1 (match x.group with
        | none => 255
        | some g => g.val)
    ++ leBytes 2 x.deadPath ++ leInt 6 x.refPosition ++ leBytes 2 x.slipLimit ++ leBytes 1 x.gapLimit
    ++ leBytes 2 x.decayInterval ++ leBytes 1 x.bucketThreshold ++ leBytes 4 x.overspeedThreshold
    ++ leBytes 4 x.silenceLimit

/-- A COMPOSITE entry read from its 14 bytes: fields its kind does not use are not tested (R94). -/
def compositeOf (b : List Byte) : Option CompositeEntry :=
  match field b 0 1 with
  | 0 => some .unused
  | 1 =>
      match finOf 6 (field b 1 1), finOf 6 (field b 2 1), flagOf (field b 13 1) with
      | some x, some y, some fallback =>
          let wa := signedField b 3 4
          let wb := signedField b 7 4
          if inRange (-32768) 32768 wa && inRange (-32768) 32768 wb then some (.weighted x y wa wb fallback) else none
      | _, _, _ => none
  | 2 =>
      match finOf 6 (field b 1 1), finOf 6 (field b 2 1) with
      | some x, some y => if 1 ≤ field b 11 2 then some (.diffRatio x y (field b 11 2)) else none
      | _, _ => none
  | _ => none

/-- The 14 bytes of a COMPOSITE entry. -/
def compositeBytes (e : CompositeEntry) : List Byte :=
  match e with
  | .unused => leBytes 14 0
  | .weighted a b wa wb fallback =>
      [1#8] ++ leBytes 1 a.val ++ leBytes 1 b.val ++ leInt 4 wa ++ leInt 4 wb ++ leBytes 2 0 ++ [flagByte fallback]
  | .diffRatio a b sep => [2#8] ++ leBytes 1 a.val ++ leBytes 1 b.val ++ leBytes 8 0 ++ leBytes 2 sep ++ [0#8]

/-- The three settings of an ENVGROUP write (R84). -/
structure GroupSettings where
  default_ : Int
  slewLimit : Nat
  staleLimit : Nat
  deriving DecidableEq, Repr

/-- An ENVGROUP write read from its 12 bytes. -/
def groupSettingsOf (b : List Byte) : Option GroupSettings :=
  let x : GroupSettings := ⟨signedField b 0 4, field b 4 4, field b 8 4⟩
  if inRange (-1000000) 1000000 x.default_ && decide (x.slewLimit ≤ 1000000) && decide (1000000 ≤ x.staleLimit)
  then some x else none

/-- The 27 bytes an ENVGROUP read returns: the settings and the running state. -/
def groupBytes (g : EnvGroup) : List Byte :=
  leInt 4 g.default_ ++ leBytes 4 g.slewLimit ++ leBytes 4 g.staleLimit ++ leInt 4 g.applied ++ leInt 4 g.lastValue
    ++ leBytes 6 g.lastTime.toNat ++ [flagByte g.stale]

/-- The polarity accept byte. -/
def polarityAcceptOf (x : Nat) : Option PolarityAccept :=
  match x with
  | 0 => some .rise
  | 1 => some .fall
  | 2 => some .both
  | _ => none

def polarityAcceptCode : PolarityAccept → Nat
  | .rise => 0 | .fall => 1 | .both => 2

/-- A WINDOW entry read from its 14 bytes. -/
def windowEntryOf (b : List Byte) : Option WindowEntry :=
  match flagOf (field b 6 1), polarityAcceptOf (field b 9 1) with
  | some gap, some polarity =>
      if within48 (signedField b 0 6) && decide (field b 7 1 ≤ 254) then
        some { limit := signedField b 0 6, gap, zone := field b 7 1, sources := BitVec.ofNat 8 (field b 8 1)
               polarity, spacing := field b 10 4 }
      else none
  | _, _ => none

/-- The 14 bytes of a WINDOW entry. -/
def windowEntryBytes (w : WindowEntry) : List Byte :=
  leInt 6 w.limit ++ [flagByte w.gap] ++ leBytes 1 w.zone ++ [w.sources] ++ leBytes 1 (polarityAcceptCode w.polarity)
    ++ leBytes 4 w.spacing

/-- The WINDOW header read from its 8 bytes. -/
def windowHeaderOf (b : List Byte) : Option WindowHeader :=
  match finOf 10 (field b 7 1) with
  | some axis =>
      if within48 (signedField b 0 6) && decide (field b 6 1 ≤ 32) then
        some { base := signedField b 0 6, valid := field b 6 1, axis }
      else none
  | none => none

/-- The 8 bytes of the WINDOW header. -/
def windowHeaderBytes (h : WindowHeader) : List Byte :=
  leInt 6 h.base ++ leBytes 1 h.valid ++ leBytes 1 h.axis.val

/-- A last-edge position: a present flag and an S48 that is 0 when absent. -/
def lastEdgeBytes (p : Option Int) : List Byte :=
  match p with
  | none => leBytes 7 0
  | some v => [1#8] ++ leInt 6 v

/-- A CAPMAP entry read from its 3 bytes: bits 10 … 15 of the mask are zero. -/
def capMapOf (b : List Byte) : Option CapMapEntry :=
  match flagOf (field b 2 1) with
  | some gated => if field b 0 2 < 1024 then some { mask := BitVec.ofNat 10 (field b 0 2), gated } else none
  | none => none

/-- The 3 bytes of a CAPMAP entry. -/
def capMapBytes (e : CapMapEntry) : List Byte :=
  leBytes 2 e.mask.toNat ++ [flagByte e.gated]

/-- A COMPARE slot read from its 11 bytes. -/
def compareSlotOf (b : List Byte) : Option CompareSlot :=
  (flagOf (field b 0 1)).map fun enable => { enable, next := timeField b 1, period := field b 7 4 }

/-- The 11 bytes of a COMPARE slot. -/
def compareSlotBytes (c : CompareSlot) : List Byte :=
  [flagByte c.enable] ++ leBytes 6 c.next.toNat ++ leBytes 4 c.period

/-- A ROUTE entry read from its byte: bits 3 … 7 are zero. -/
def routeOf (b : List Byte) : Option Route :=
  let x := field b 0 1
  if x < 8 then
    some { attention := x.testBit 0, halt := x.testBit 1, taint := x.testBit 2 }
  else none

/-- The byte of a ROUTE entry. -/
def routeByte (r : Route) : Byte :=
  (if r.attention then 1#8 else 0#8) ||| (if r.halt then 2#8 else 0#8) ||| (if r.taint then 4#8 else 0#8)

/-- A COUNTSEL entry: an event number 0 … 27. -/
def selectionOf (b : List Byte) : Option Nat :=
  if field b 0 1 ≤ 27 then some (field b 0 1) else none

/-- The DELIVERY settings read from their 8 bytes (R167). -/
def deliveryOf (b : List Byte) : Option Delivery :=
  match flagOf (field b 0 1), flagOf (field b 7 1) with
  | some pull, some dropOldest =>
      if field b 1 1 ≤ 250 ∧ 1 ≤ field b 2 1 ∧ field b 2 1 ≤ 128 then
        some { pull, reader := field b 1 1, watermark := field b 2 1, interval := field b 3 4, dropOldest }
      else none
  | _, _ => none

/-- The 8 bytes of the DELIVERY settings. -/
def deliveryBytes (d : Delivery) : List Byte :=
  [flagByte d.pull] ++ leBytes 1 d.reader ++ leBytes 1 d.watermark ++ leBytes 4 d.interval ++ [flagByte d.dropOldest]

/-- The capture timeout and the chain-down limit of a TIMING write (R183). -/
def timingOf (b : List Byte) : Option (Nat × Nat) :=
  if 1000 ≤ field b 0 4 ∧ field b 0 4 ≤ 1000000 ∧ 50 ≤ field b 4 2 then some (field b 0 4, field b 4 2) else none

/-- The 6 bytes of the TIMING table. -/
def timingBytes (timeout limit : Nat) : List Byte :=
  leBytes 4 timeout ++ leBytes 2 limit

end Sys2Proof.Machine
end

