-- ==== Sys2Proof/Machine/Management.lean ====
section
/-! DEFINITION. MGA, the Management Agent: beginning a request, its checks, and its answer (chapter 11). The rows
REQUEST_BEGIN, UNKNOWN_REQUEST and IDENTIFY. -/

namespace Sys2Proof.Machine

/-! ### The answer to a request (R175, R176) -/

/-- R175: an answer with this status reports one "management refusals" event. -/
def statusRefuses : Status → Bool
  | .refusedState | .refusedRange | .refusedConflict | .refusedOrder | .denied | .unknown => true
  | .done | .started | .busy | .full => false

/-- What an owner block answers to a request: the state it leaves, a status and the data. -/
structure Answer where
  state : State
  status : Status
  data : List Byte := []

/-- R176: the response to a request. -/
def responseTo (r : Request) (status : Status) (data : List Byte) (endsInReset : Bool) : Response :=
  { dest := r.source, tag := r.tag, code := r.code, status, data, endsInReset }

/-- R175: the request is answered and MGA is free to begin the next one. A broadcast request is not answered (R178). -/
def placeAnswer (r : Request) (status : Status) (data : List Byte) (s : State) : State :=
  let s := s.modMga fun m =>
    { m with
      executing := none
      responses := if r.broadcast then m.responses else m.responses ++ [responseTo r status data false] }
  if statusRefuses status then s.report .mga .managementRefusals else s

/-- The answer of an owner placed. -/
def Answer.place (a : Answer) (r : Request) : State :=
  placeAnswer r a.status a.data a.state

/-- The owner of the request that MGA is executing takes it, if it is one that `mine` names. -/
def serve (mine : Request → Bool) (owner : Request → State → Answer) (s : State) : State :=
  match s.mga.executing with
  | some r => if mine r then (owner r s).place r else s
  | none => s

/-- The request is the request `op`. -/
def Request.isOp (op : RequestOp) (r : Request) : Bool :=
  r.op == some op

/-- The request is a WRITE TABLE of table number n (R180). -/
def Request.isWrite (n : Nat) (r : Request) : Bool :=
  r.isOp .writeTable && r.subject == n

/-- A refusal, or any answer that changes nothing and carries no data. -/
def plain (s : State) (status : Status) : Answer :=
  { state := s, status }

/-! ### Beginning a request (R175 to R178) -/

/-- R179, R192: the CLEAR ERRORS mask names something undefined: bit 0, or one of 26 … 31. -/
def maskUndefined (mask : Nat) : Bool :=
  mask.testBit 0 || decide (67108864 ≤ mask)

/-- R176, R177, R182: the answer MGA gives itself when it begins an addressed request of the set, if it gives one. -/
def beginRefusal (controller : Nat) (r : Request) (op : RequestOp) : Option Status :=
  if r.args.length < neededArgs op then some .refusedRange
  else if op == .clearErrors && maskUndefined (field r.args 0 4) then some .refusedRange
  else if !anyStation op && !(r.source == controller && decide (1 ≤ r.source) && decide (r.source ≤ 250)) then
    some .denied
  else if op == .writeTable && (r.subject == 0 || decide (12 < r.subject)) then some .refusedRange
  else none

/-- R178: a broadcast request of this kind is executed. -/
def broadcastActs (op : Option RequestOp) : Bool :=
  op == some .restart || op == some .fullReset

/-- MGA hands the request on: it stands as the one being executed; a RESTART is handed to every block (R186). -/
def handOn (r : Request) (op : Option RequestOp) (s : State) : State :=
  s.modMga fun m =>
    { m with executing := some r, restartLeft := if op == some .restart then restartBlocks else m.restartLeft }

/-- R178: a broadcast request is handed on, or ended without effect. -/
def beginBroadcast (r : Request) (s : State) : State :=
  if broadcastActs r.op then handOn r r.op s else s.report .mga .managementRefusals

/-- R176, R177: an addressed request is handed on, or answered by MGA. A request outside the set stands for
UNKNOWN_REQUEST to answer. -/
def beginAddressed (r : Request) (s : State) : State :=
  match r.op with
  | none => handOn r none s
  | some op =>
      match beginRefusal s.cpt.controller r op with
      | some status => placeAnswer r status [] s
      | none => handOn r (some op) s

/-- R175: MGA may begin a request. -/
def mayBegin (m : Mga) : Bool :=
  m.executing.isNone && m.resetWait.isNone && decide (m.responses.length < Config.responseDepth)

/-- REQUEST_BEGIN (R175): MGA begins the oldest request of the intake and applies its checks. While it may not begin
one, or the intake is empty, nothing happens. -/
def execRequestBegin (s : State) : Host.Outcome State Fault Refusal :=
  .next <| match s.mga.intake with
    | [] => s
    | r :: rest =>
        if mayBegin s.mga then
          let s := (s.modMga fun m => { m with intake := rest }).report .mga .managementRequests
          if r.broadcast then beginBroadcast r s else beginAddressed r s
        else s

/-- UNKNOWN_REQUEST (R176): a request with a short payload or a code outside the set is answered UNKNOWN. -/
def execUnknownRequest (s : State) : Host.Outcome State Fault Refusal :=
  .next (serve (fun r => r.op == none) (fun _ s => plain s .unknown) s)

/-! ### IDENTIFY (R185) -/

/-- R185: the capacities, in their order; the record queue's takes 2 bytes. -/
def capacityBytes : List Byte :=
  leBytes 1 6 ++ leBytes 1 4 ++ leBytes 1 16 ++ leBytes 1 64 ++ leBytes 1 16 ++ leBytes 2 128 ++ leBytes 1 32
    ++ leBytes 1 4 ++ leBytes 1 8 ++ leBytes 1 4

/-- R185: the identity of the part. -/
def identityBytes (s : State) : List Byte :=
  leBytes 2 Config.vendorCode ++ leBytes 2 Config.partNumber ++ leBytes 1 Config.revision
    ++ leBytes 1 s.cpt.station ++ leBytes 1 s.cpt.controller ++ leBytes 1 s.mga.cause.code ++ capacityBytes

/-- IDENTIFY (R185). -/
def execIdentify (s : State) : Host.Outcome State Fault Refusal :=
  .next (serve (·.isOp .identify) (fun _ s => { state := s, status := .done, data := identityBytes s }) s)

end Sys2Proof.Machine
end

