-- ==== Sys2Proof/Machine/AxisRequests.lean ====
section
/-! DEFINITION. The requests that name an axis: starting and stopping it, its zero and preset, its calibration and its
status (R73 to R75, R79, R92, R102, R103, R111, R113, R116, R125, R127, R179). -/

namespace Sys2Proof.Machine

/-- A request that names an axis, 0 … 5; any other number is answered REFUSED_RANGE. -/
def onAxis (act : AxisId → Request → State → Answer) (r : Request) (s : State) : Answer :=
  match r.axis with
  | some a => act a r s
  | none => plain s .refusedRange

/-! ### AXIS START, AXIS STOP, ACCEPT (R73 to R75) -/

/-- R57, R73, R88: the axis context after AXIS START. -/
def startedContext (observed : Time) (applied : Int) : AxisContext :=
  { state := .acquire, silenceRef := observed, xRef := applied }

/-- R73: AXIS START. -/
def startAxis (a : AxisId) (_ : Request) (s : State) : Answer :=
  let x := s.axes[a]
  if x.ctx.state ≠ .off ∨ x.settings.enable = false then plain s .refusedState
  else plain (s.modCtx a fun _ => startedContext s.cpt.observed (appliedOf s x.settings.group)) .done

/-- AXIS_START (R73). -/
def execAxisStart (s : State) : Host.Outcome State Fault Refusal :=
  .next (serve (·.isOp .axisStart) (onAxis startAxis) s)

/-- R74: the axis enters OFF, its calibration ends, its zero is disarmed and CAP resolves its fields. -/
def stopAxis (a : AxisId) (_ : Request) (s : State) : Answer :=
  if (s.axes[a]).ctx.state = .off then plain s .refusedState
  else plain (resolveStopped a (abortCalibration (s.modCtx a fun _ => {}) a)) .done

/-- AXIS_STOP (R74). -/
def execAxisStop (s : State) : Host.Outcome State Fault Refusal :=
  .next (serve (·.isOp .axisStop) (onAxis stopAxis) s)

/-- R75: ACCEPT. -/
def acceptAxis (a : AxisId) (_ : Request) (s : State) : Answer :=
  if (s.axes[a]).ctx.state = .slipped then plain (s.modCtx a fun c => { c with state := .free }) .done
  else plain s .refusedState

/-- ACCEPT (R75). -/
def execAccept (s : State) : Host.Outcome State Fault Refusal :=
  .next (serve (·.isOp .accept) (onAxis acceptAxis) s)

/-! ### ZERO AT REFERENCE, ZERO CANCEL, PRESET (R103, R111, R113) -/

/-- R103: a new arming begins. -/
def beginArming (x : Axis) : Axis :=
  { x with ctx := { x.ctx with zero := .waiting }, arming := x.arming + 1 }

/-- R103: ZERO AT REFERENCE. The state is tested before the arming, so an armed axis in LOST is answered REFUSED_STATE
(log 34). -/
def armZero (a : AxisId) (_ : Request) (s : State) : Answer :=
  let c := (s.axes[a]).ctx
  if c.counting = false then plain s .refusedState
  else if c.armed then plain s .busy
  else plain (s.modAxis a beginArming) .started

/-- ZERO_AT_REFERENCE (R103). -/
def execZeroAtReference (s : State) : Host.Outcome State Fault Refusal :=
  .next (serve (·.isOp .zeroAtReference) (onAxis armZero) s)

/-- R111: a zero-resolution entry of axis a loses its mark. -/
def unmark (a : AxisId) (e : Entry) : Entry :=
  if e.zeroMark = some a then { e with zeroMark := none } else e

/-- R111: ZERO CANCEL. -/
def cancelZero (a : AxisId) (_ : Request) (s : State) : Answer :=
  if (s.axes[a]).ctx.armed then
    plain ((s.modCtx a fun c => { c with zero := .none }).modCap fun c => { c with entries := c.entries.map (unmark a) })
      .done
  else plain s .refusedState

/-- ZERO_CANCEL (R111). -/
def execZeroCancel (s : State) : Host.Outcome State Fault Refusal :=
  .next (serve (·.isOp .zeroCancel) (onAxis cancelZero) s)

/-- R113, step 3: the newest entry of the ring flagged referenced. -/
def flagNewest : List HistEntry → List HistEntry
  | [] => []
  | [h] => [{ h with referenced := true }]
  | h :: hs => h :: flagNewest hs

/-- R113: the offset that gives the current count the position v. -/
def presetOffset (x : Axis) (applied v : Int) : Int :=
  v - signedLength x.settings x.ctx.count applied

/-- R113, steps 1 to 5. -/
def applyPreset (c : AxisContext) (offset applied : Int) (now : Time) : AxisContext :=
  { c with
    xRef := applied, offset, ring := flagNewest c.ring, state := .referenced, refKind := .preset, refTime := now }

/-- R113: PRESET. V is tested before the axis state, so a V outside ±(2^47 − 1) for an axis in OFF, ACQUIRE or LOST is
answered REFUSED_RANGE (log 37). -/
def presetAxis (a : AxisId) (r : Request) (s : State) : Answer :=
  let x := s.axes[a]
  let v := signedField r.args 0 6
  let applied := appliedOf s x.settings.group
  let offset := presetOffset x applied v
  if within48 v = false then plain s .refusedRange
  else if x.ctx.counting = false then plain s .refusedState
  else if within48 offset = false then plain s .refusedRange
  else plain (s.modCtx a fun c => applyPreset c offset applied s.cpt.observed) .done

/-- PRESET (R113). -/
def execPreset (s : State) : Host.Outcome State Fault Refusal :=
  .next (serve (·.isOp .preset) (onAxis presetAxis) s)

/-! ### CALIBRATE, CALIBRATE ABORT (R116, R125) -/

/-- R116: the record of a calibration that starts. -/
def startedCalibration (m t : Nat) : CalRecord :=
  { outcome := .running, required := m, sampleLimit := t }

/-- R116: CALIBRATE. -/
def calibrateAxis (a : AxisId) (r : Request) (s : State) : Answer :=
  let x := s.axes[a]
  let m := field r.args 0 1
  let t := field r.args 1 4
  if m < 2 ∨ t < 1024 ∨ 1048576 < t then plain s .refusedRange
  else if x.ctx.counting = false then plain s .refusedState
  else if x.cal.outcome = .running then plain s .busy
  else plain (s.modAxis a fun y => { y with cal := startedCalibration m t }) .started

/-- CALIBRATE (R116). -/
def execCalibrate (s : State) : Host.Outcome State Fault Refusal :=
  .next (serve (·.isOp .calibrate) (onAxis calibrateAxis) s)

/-- R125: CALIBRATE ABORT. -/
def abortAxis (a : AxisId) (_ : Request) (s : State) : Answer :=
  if (s.axes[a]).cal.outcome = .running then plain (abortCalibration s a) .done else plain s .refusedState

/-- CALIBRATE_ABORT (R125). -/
def execCalibrateAbort (s : State) : Host.Outcome State Fault Refusal :=
  .next (serve (·.isOp .calibrateAbort) (onAxis abortAxis) s)

/-! ### AXIS STATUS (R79, R92, R102, R127, R179) -/

/-- The zero state without the entry it resolves (R102). -/
def ZeroState.phase : ZeroState → ZeroPhase
  | .none => .none
  | .waiting => .waiting
  | .resolving _ => .resolving

/-- The time of an entry, 0 where there is none (R179). -/
def timeBytes (h : Option HistEntry) : List Byte :=
  match h with
  | some e => leBytes 6 e.time.toNat
  | none => leBytes 6 0

/-- R79: the items of the count and the state machine. -/
def countItems (c : AxisContext) : List Byte :=
  [Config.axisStateCode c.state] ++ leInt 6 c.count ++ leInt 4 c.tracking ++ leBytes 2 c.pcPrev
    ++ leBytes 6 c.tAcc.toNat ++ leBytes 6 c.tSeen.toNat ++ leBytes 1 c.ring.length ++ timeBytes c.ring.head?
    ++ timeBytes c.ring.getLast? ++ leBytes 1 c.bucket ++ [flagByte c.overspeed] ++ [flagByte c.weak]
    ++ leBytes 6 c.signal

/-- R92: the current position, 0 in OFF. -/
def currentPosition (x : Axis) (applied : Int) : Int :=
  if x.ctx.state = .off then 0 else saturate (rawPosition x x.ctx.count applied)

/-- R92: O, x_ref and the current position. -/
def scaleItems (x : Axis) (applied : Int) : List Byte :=
  leInt 6 x.ctx.offset ++ leInt 4 x.ctx.xRef ++ leInt 6 (currentPosition x applied)

/-- R102: the zero state and the reference record. -/
def zeroItems (c : AxisContext) : List Byte :=
  [Config.zeroStateCode c.zero.phase] ++ [Config.refKindCode c.refKind] ++ leBytes 6 c.refTime.toNat
    ++ leBytes 6 c.markTime.toNat ++ leInt 6 c.zeroShift

/-- R179: a coefficient of the result in 2 bytes; a value that 2 bytes cannot hold is sent as the free value of log 4. -/
def coefficientBytes (z : Int) : List Byte :=
  if -32768 ≤ z ∧ z ≤ 65535 then leInt 2 z else leBytes 2 (Config.wideCoefficient z).toNat

/-- R127: the calibration record. -/
def calibrationItems (r : CalRecord) : List Byte :=
  [Config.outcomeCode r.outcome] ++ leBytes 1 r.reason ++ leBytes 1 r.required ++ leBytes 4 r.sampleLimit
    ++ leBytes 4 r.seen ++ leBytes 4 r.motion ++ leBytes 1 r.quadrants.toNat ++ [flagByte r.extremes]
    ++ leInt 2 r.maxC ++ leInt 2 r.minC ++ leInt 2 r.maxS ++ leInt 2 r.minS ++ leInt 2 r.sAtMaxC ++ leInt 2 r.sAtMinC
    ++ coefficientBytes r.oC ++ coefficientBytes r.oS ++ coefficientBytes r.gain ++ coefficientBytes r.ks
    ++ coefficientBytes r.kc

/-- The data of AXIS STATUS, rule by rule. -/
def statusBytes (x : Axis) (applied : Int) : List Byte :=
  countItems x.ctx ++ scaleItems x applied ++ zeroItems x.ctx ++ calibrationItems x.cal

/-- R79: AXIS STATUS. -/
def reportAxis (a : AxisId) (_ : Request) (s : State) : Answer :=
  { state := s, status := .done, data := statusBytes s.axes[a] (appliedOf s (s.axes[a]).settings.group) }

/-- AXIS_STATUS (R79). -/
def execAxisStatus (s : State) : Host.Outcome State Fault Refusal :=
  .next (serve (·.isOp .axisStatus) (onAxis reportAxis) s)

end Sys2Proof.Machine
end

