-- ==== Sys2Proof/Machine/CaptureRequests.lean ====
section
/-! DEFINITION. The requests of the capture unit and the record queue: ARM, STOP CAPTURE, MANUAL CAPTURE, DRAIN,
FLUSH QUEUE and QUEUE STATUS (R132, R134, R135, R146, R168, R170, R172). -/

namespace Sys2Proof.Machine

/-- R134, test 1: the mask names only raw axes and composites that are not UNUSED. -/
def maskUsable (u : Scu) (mask : BitVec 10) : Bool :=
  (List.finRange 4).all fun c => !mask.getLsbD (6 + c.val) || u.composites[c] != .unused

/-- The entry is WEIGHTED. -/
def isWeighted : CompositeEntry → Bool
  | .weighted _ _ _ _ _ => true
  | .unused => false
  | .diffRatio _ _ _ => false

/-- R134, test 2: the window axis is a raw axis or a WEIGHTED composite. -/
def windowAxisUsable (u : Scu) (x : Fin 10) : Bool :=
  match finOf 4 (x.val - 6) with
  | some c => decide (x.val < 6) || isWeighted u.composites[c]
  | none => false

/-- R134: the status ARM is answered with in STOPPED or HALTED. -/
def armStatus (s : State) : Status :=
  if s.cap.map.toList.any fun e => !maskUsable s.scu e.mask then .refusedRange
  else if windowAxisUsable s.scu s.cap.header.axis = false then .refusedRange
  else if windowsOrdered s.cap = false then .refusedOrder
  else .done

/-- R134: capture is armed. -/
def armed (c : Cap) : Cap :=
  { c with state := .armed, lastEdge := Vector.replicate 8 none }

/-- R134: CAP's answer to ARM. -/
def armCapture (_ : Request) (s : State) : Answer :=
  if s.cap.state = .armed then plain s .refusedState
  else if armStatus s = .done then plain (s.modCap armed) .done
  else plain s (armStatus s)

/-- ARM (R134). -/
def execArm (s : State) : Host.Outcome State Fault Refusal :=
  .next (serve (·.isOp .arm) armCapture s)

/-- R135: what the removal of one entry makes known. -/
def removeEntry (s : State) (e : Entry) : State :=
  let s := s.report .cap .discardedByStop
  match e.zeroMark with
  | some a => noticeRemoved a e.id s
  | none => s

/-- R135: CAP's answer to STOP CAPTURE. -/
def stopCapture (_ : Request) (s : State) : Answer :=
  plain (s.cap.entries.foldl removeEntry (s.modCap fun c => { c with entries := [], state := .stopped })) .done

/-- STOP_CAPTURE (R135). -/
def execStopCapture (s : State) : Host.Outcome State Fault Refusal :=
  .next (serve (·.isOp .stopCapture) stopCapture s)

/-- R132, R179: the time of a manual trigger: the request's when its payload holds 10 or more bytes, and otherwise the
observed link time. -/
def manualTime (r : Request) (observed : Time) : Time :=
  if 10 ≤ r.payload.length then timeField r.args 0 else observed

/-- R128: the manual trigger. -/
def manualTrigger (r : Request) (observed : Time) : Trigger :=
  { kind := .manual, source := 12, polarity := .none, time := manualTime r observed }

/-- R132: CAP's answer to MANUAL CAPTURE. -/
def captureNow (r : Request) (s : State) : Answer :=
  let t := manualTrigger r s.cpt.observed
  match s.cap.state with
  | .stopped => plain s .refusedState
  | .halted => plain (s.report .cap .triggersDropped) .refusedState
  | .armed =>
      if maskEmpty s 12 then plain s .refusedState
      else if Config.pendingDepth ≤ s.cap.entries.length then plain (dropTrigger t s) .full
      else plain (takeTrigger t true none s) .done

/-- MANUAL_CAPTURE (R132). -/
def execManualCapture (s : State) : Host.Outcome State Fault Refusal :=
  .next (serve (·.isOp .manualCapture) captureNow s)

/-- R168: RQU's answer to DRAIN. -/
def drainQueue (r : Request) (s : State) : Answer :=
  let count := field r.args 0 1
  let granted := min count s.rqu.queue.length
  if s.rqu.delivery.reader = 0 ∨ r.source ≠ s.rqu.delivery.reader then plain s .denied
  else if count < 1 ∨ 128 < count then plain s .refusedRange
  else if 0 < s.rqu.drain then plain s .busy
  else { state := s.modRqu fun q => { q with drain := granted }, status := .done, data := leBytes 1 granted }

/-- DRAIN (R168). -/
def execDrain (s : State) : Host.Outcome State Fault Refusal :=
  .next (serve (·.isOp .drain) drainQueue s)

/-- R170: RQU's answer to FLUSH QUEUE. -/
def flushQueue (_ : Request) (s : State) : Answer :=
  let removed := s.rqu.queue.length
  let s := (s.modRqu fun q => { q with queue := [], drain := 0 }).refreshAge
  { state := s.reportTimes .rqu .recordsFlushed removed, status := .done, data := leBytes 1 removed }

/-- FLUSH_QUEUE (R170). -/
def execFlushQueue (s : State) : Host.Outcome State Fault Refusal :=
  .next (serve (·.isOp .flushQueue) flushQueue s).settleFairness

/-- R172, R179: the oldest record's present flag, sequence number and trigger time. -/
def oldestBytes (queue : List QueuedRecord) : List Byte :=
  match queue with
  | [] => leBytes 9 0
  | q :: _ => [1#8] ++ leBytes 2 q.sequence ++ leBytes 6 q.body.time.toNat

/-- R146, R172, R179: the data of QUEUE STATUS. -/
def queueBytes (s : State) : List Byte :=
  leBytes 1 s.rqu.queue.length ++ leBytes 2 s.rqu.sequence ++ oldestBytes s.rqu.queue ++ leBytes 2 s.rqu.drops
    ++ leBytes 1 s.rqu.drain ++ [flagByte (offerCondition s.rqu)] ++ [flagByte s.rqu.ageDue] ++ leBytes 1 s.cap.state.code
    ++ leBytes 1 s.cap.entries.length ++ leBytes 1 (s.cap.entries.countP fun e => !e.record)

/-- QUEUE_STATUS (R146, R172). -/
def execQueueStatus (s : State) : Host.Outcome State Fault Refusal :=
  .next (serve (·.isOp .queueStatus) (fun _ s => { state := s, status := .done, data := queueBytes s }) s)

end Sys2Proof.Machine
end

