-- ==== Sys2Proof/Machine/FaultRequests.lean ====
section
/-! DEFINITION. The requests of the Fault Monitor: READ ERRORS, CLEAR ERRORS, READ COUNTERS and CLEAR COUNTERS (R192,
R196, R198). -/

namespace Sys2Proof.Machine

/-- R196: the flag mask: bit k for kind k, bits 24 and 25 for the attention sources. -/
def flagMask (f : Fmn) : Nat :=
  ((List.finRange 23).map fun i => if f.flags[i] then 2 ^ (i.val + 1) else 0).sum
    + (if f.operationEnded then 16777216 else 0) + (if f.queueWatermark then 33554432 else 0)

/-- R196: the FIRST record, 13 bytes, all 0 when it is empty. -/
def firstBytes (f : Option FirstRecord) : List Byte :=
  match f with
  | none => leBytes 13 0
  | some x =>
      [1#8] ++ leBytes 1 x.kind.number ++ leBytes 1 x.subject ++ leBytes 6 x.time.toNat ++ leBytes 4 x.detail.toNat

/-- R196: the data of READ ERRORS. -/
def errorBytes (f : Fmn) : List Byte :=
  leBytes 4 (flagMask f) ++ f.counts.toList.flatMap (leBytes 1) ++ firstBytes f.first ++ [flagByte (attentionPending f)]

/-- READ_ERRORS (R196). -/
def execReadErrors (s : State) : Host.Outcome State Fault Refusal :=
  .next (serve (·.isOp .readErrors) (fun _ s => { state := s, status := .done, data := errorBytes s.fmn }) s)

/-- R192: the mask names FIRST's kind. -/
def namesFirst (mask : Nat) (f : Option FirstRecord) : Bool :=
  match f with
  | none => false
  | some x => mask.testBit x.kind.number

/-- R192: the named kinds, attention sources and a FIRST record of a named kind are cleared. -/
def clearNamed (mask : Nat) (f : Fmn) : Fmn :=
  { f with
    flags := Vector.ofFn fun i : Fin 23 => f.flags[i] && !mask.testBit (i.val + 1)
    counts := Vector.ofFn fun i : Fin 23 => if mask.testBit (i.val + 1) then 0 else f.counts[i]
    first := if namesFirst mask f.first then none else f.first
    operationEnded := f.operationEnded && !mask.testBit 24
    queueWatermark := f.queueWatermark && !mask.testBit 25 }

/-- R192: FMN's answer to CLEAR ERRORS. -/
def clearErrors (r : Request) (s : State) : Answer :=
  let mask := field r.args 0 4
  if maskUndefined mask then plain s .refusedRange else plain (s.modFmn (clearNamed mask)) .done

/-- CLEAR_ERRORS (R192). -/
def execClearErrors (s : State) : Host.Outcome State Fault Refusal :=
  .next (serve (·.isOp .clearErrors) clearErrors s)

/-- R198: the data of READ COUNTERS. -/
def counterBytes (f : Fmn) : List Byte :=
  (List.finRange 8).flatMap fun j => leBytes 1 f.selections[j] ++ leBytes 4 f.counters[j]

/-- READ_COUNTERS (R198). -/
def execReadCounters (s : State) : Host.Outcome State Fault Refusal :=
  .next (serve (·.isOp .readCounters) (fun _ s => { state := s, status := .done, data := counterBytes s.fmn }) s)

/-- R198: the counters that the mask names are set to 0. -/
def clearCounted (mask : Nat) (f : Fmn) : Fmn :=
  { f with counters := Vector.ofFn fun j : Fin 8 => if mask.testBit j.val then 0 else f.counters[j] }

/-- R198: FMN's answer to CLEAR COUNTERS. -/
def clearCounters (r : Request) (s : State) : Answer :=
  plain (s.modFmn (clearCounted (field r.args 0 1))) .done

/-- CLEAR_COUNTERS (R198). -/
def execClearCounters (s : State) : Host.Outcome State Fault Refusal :=
  .next (serve (·.isOp .clearCounters) clearCounters s)

end Sys2Proof.Machine
end

