-- ==== Sys2Proof/Machine/Queue.lean ====
section
/-! DEFINITION. RQU, the Record Queue: queueing, overflow and the flush age (chapter 10). The rows RECORD_QUEUED and
FLUSH_AGE. -/

namespace Sys2Proof.Machine

/-- R161: the record takes the sequence counter's value and joins the newest end. -/
def enqueue (r : Record) (q : Rqu) : Rqu :=
  { q with queue := q.queue ++ [⟨q.sequence, r⟩], sequence := (q.sequence + 1) % 65536 }

/-- R162: the drop counter increases by 1 and stays at 65535. -/
def countDrop (q : Rqu) : Rqu :=
  { q with drops := min 65535 (q.drops + 1) }

/-- R162: QUEUE_OVERFLOW and the event of a record lost from `source` under a policy code. -/
def raiseOverflow (source : SourceId) (policy : Nat) (s : State) : State :=
  (s.raise .rqu .queueOverflow source.val (policy * 65536 + s.rqu.drops : Nat)).report .rqu .recordsDropped

/-- R161, R166, R171: a record queued with room. -/
def queueWithRoom (r : Record) (s : State) : State :=
  let first := s.rqu.queue.isEmpty
  let crossed := s.rqu.queue.length + 1 == s.rqu.delivery.watermark
  let s := (s.modRqu (enqueue r)).report .rqu .recordsQueued
  let s := if first then s.refreshAge else s
  if crossed then s.raiseSource .rqu .queueWatermark else s

/-- R162, DROP_OLDEST: the oldest record is lost and the arriving one queued. -/
def replaceOldest (oldest : QueuedRecord) (r : Record) (s : State) : State :=
  let s := raiseOverflow oldest.body.source 1 (s.modRqu fun q => countDrop { q with queue := q.queue.drop 1 })
  ((s.modRqu (enqueue r)).report .rqu .recordsQueued).refreshAge

/-- R161, R162: RQU takes a record from CAP. -/
def takeRecord (r : Record) (s : State) : State :=
  if s.rqu.queue.length < Config.recordDepth then queueWithRoom r s
  else match s.rqu.delivery.dropOldest, s.rqu.queue with
    | true, oldest :: _ => replaceOldest oldest r s
    | _, _ => raiseOverflow r.source 0 (s.modRqu countDrop)

/-- RECORD_QUEUED (R161, R162): RQU takes the oldest record CAP has handed it; with none, nothing happens. -/
def execRecordQueued (s : State) : Host.Outcome State Fault Refusal :=
  .next <| match s.bus.records with
    | [] => s
    | r :: rest => (takeRecord r (s.modBus fun b => { b with records := rest })).settleFairness

/-- FLUSH_AGE (R166): RQU takes an advance handed to it and examines the flush age anew; with none, nothing happens. -/
def execFlushAge (s : State) : Host.Outcome State Fault Refusal :=
  .next <|
    if s.bus.rquAdvances = 0 then s
    else (s.modBus fun b => { b with rquAdvances := b.rquAdvances - 1 }).refreshAge.settleFairness

end Sys2Proof.Machine
end

