-- ==== Sys2Proof/Machine/Chain.lean ====
section
/-! DEFINITION. CPT, the Chain Port: bad and good frames, the link-error bucket, the forward queue, station assignment,
link time, the chain-down timer and the attention slot (chapter 1). The rows LINK_ERROR_DECAY, CHAIN_DOWN and ALWAYS. -/

namespace Sys2Proof.Machine

/-- R9: the decay count returns to 0 and a bucket above 0 decreases by 1. -/
def decayLinkBucket (s : State) : State :=
  s.modCpt fun c => { c with decay := 0, bucket := c.bucket - 1 }

/-- R8, R9: a good frame reports its event and counts toward the decay of the bucket. -/
def countGoodFrame (s : State) : State :=
  let s := s.report .cpt .goodFramesIn
  if s.cpt.decay + 1 < Config.linkDecayInterval then s.modCpt fun c => { c with decay := c.decay + 1 }
  else decayLinkBucket s

/-- R9: a dropped frame adds 1 to the bucket, which stays at 255; the step from 31 to 32 raises CHAIN_DEGRADED. -/
def countBadFrame (s : State) : State :=
  let climbed := s.modCpt fun c => { c with bucket := min 255 (c.bucket + 1) }
  if s.cpt.bucket = 31 then climbed.raise .cpt .chainDegraded 0 32 else climbed

/-- R8: a frame that is not well formed, or whose check fails, is dropped. -/
def dropBadFrame (bytes : List Byte) (s : State) : State :=
  let s := s.raise .cpt .frameCheck 0 (if frameWellFormed bytes then 0 else 1)
  (countBadFrame s).report .cpt .badFrames

/-- R13: a frame is offered to the forward queue; a full queue loses it and raises FORWARD_OVERRUN. -/
def offerForward (bytes : List Byte) (copyOf : Option Nat) (s : State) : State :=
  if s.cpt.forward.length < Config.forwardDepth then
    s.modCpt fun c => { c with forward := c.forward ++ [⟨bytes, copyOf⟩] }
  else s.raise .cpt .forwardOverrun (frameSource bytes) (frameKind bytes)

/-- R12: an unassigned part takes this ASSIGN frame. -/
def assignTakes (bytes : List Byte) : Bool :=
  let p := framePayload bytes
  decide (2 ≤ p.length) && decide (1 ≤ field p 0 1) && decide (field p 0 1 ≤ 250)

/-- R12: the part takes its number and controlling station, starts the chain-down timer and forwards the frame with
the next number one higher; any other ASSIGN frame is forwarded unchanged. -/
def takeAssign (bytes : List Byte) (s : State) : State :=
  if assignTakes bytes then
    let next := field (framePayload bytes) 0 1
    let controller := field (framePayload bytes) 1 1
    let s := s.modCpt fun c =>
      { c with station := next, controller := controller, timer := 0, established := false }
    offerForward (alterByte bytes 14 (next + 1)) none s
  else offerForward bytes none s

/-- R18: an advance of the observed link time is handed to every Axis Engine, CAP, SCU and RQU. -/
def handAdvance (t : Time) (s : State) : State :=
  s.modBus fun b =>
    { b with
      linkEvents := b.linkEvents.map (· ++ [.advance t])
      capAdvances := b.capAdvances ++ [t]
      scuAdvances := b.scuAdvances ++ [t]
      rquAdvances := b.rquAdvances + 1 }

/-- R17, R20: a CYCLE frame's time becomes the observed link time; the chain-down timer restarts, the chain is up. -/
def advanceTo (t : Time) (s : State) : State :=
  handAdvance t (s.modCpt fun c => { c with observed := t, established := true, timer := 0, down := false })

/-- R17: the frame's time is taken when no time is established or it is later than the observed link time. -/
def timeTaken (c : Cpt) (t : Time) : Bool :=
  !c.established || later t c.observed

/-- R17: timekeeping by a good CYCLE frame. -/
def keepTime (bytes : List Byte) (s : State) : State :=
  if timeTaken s.cpt (frameTime bytes) then advanceTo (frameTime bytes) s
  else s.raise .cpt .linkTime (frameSource bytes) (frameTime bytes).toNat

/-- R21: with attention pending and a free slot, the frame leaves with the part's number in its slot. -/
def claimedFrame (bytes : List Byte) (s : State) : List Byte :=
  if attentionPending s.fmn && frameSlot bytes == 0 then alterByte bytes 3 s.cpt.station else bytes

/-- R17, R21: what an assigned part does with a good CYCLE frame. -/
def takeCycle (bytes : List Byte) (s : State) : State :=
  let s := keepTime bytes (s.report .cpt .cycleFrames)
  offerForward (claimedFrame bytes s) none s

/-- R20: the chain goes down: CHAIN_DOWN is raised and the loss is handed to every Axis Engine. -/
def chainGoesDown (s : State) : State :=
  let s := (s.modCpt fun c => { c with down := true }).raise .cpt .chainDown 0 s.cpt.chainLimit
  s.modBus fun b => { b with linkEvents := b.linkEvents.map (· ++ [.loss]) }

/-- R20: the chain goes down if the part is assigned, the chain is up and the timer has reached the limit. -/
def checkChainDown (s : State) : State :=
  if assigned s && !s.cpt.down && decide (s.cpt.chainLimit ≤ s.cpt.timer) then chainGoesDown s else s

/-- R20: one microsecond more on the chain-down timer, which is stopped while the part is unassigned. -/
def tickTimer (s : State) : State :=
  if assigned s then s.modCpt fun c => { c with timer := c.timer + 1 } else s

/-- LINK_ERROR_DECAY (R9): the good frame that makes the decay count reach 1000 brings it back to 0 and lowers the
bucket. Below 999 the count is not about to reach 1000 and nothing happens (log 8). -/
def execLinkErrorDecay (s : State) : Host.Outcome State Fault Refusal :=
  .next (if Config.linkDecayInterval ≤ s.cpt.decay + 1 then decayLinkBucket s else s)

/-- CHAIN_DOWN (R20): the microsecond at which the chain-down timer reaches its limit takes the chain down. With the
timer further from the limit, the chain down or the part unassigned, nothing happens (log 8). -/
def execChainDown (s : State) : Host.Outcome State Fault Refusal :=
  .next (if s.cpt.chainLimit ≤ s.cpt.timer + 1 && !s.cpt.down then checkChainDown (tickTimer s) else s)

/-- ALWAYS (R197, R20): one microsecond of the local reference. -/
def execAlways (s : State) : Host.Outcome State Fault Refusal :=
  .next (checkChainDown (tickTimer (s.report .cpt .always)))

end Sys2Proof.Machine
end

