-- ==== Sys2Proof/Machine/Sources.lean ====
section
/-! DEFINITION. SFL, the Source Filter: usable content, matching, delivery and consumption of SAMPLE, MARKER and
ENVIRONMENT frames (chapter 2). -/

namespace Sys2Proof.Machine

/-- The valid entry of the table that satisfies p; R27 leaves at most one for an item. -/
def findSource (t : Vector (Option SourceEntry) 16) (p : SourceEntry → Bool) : Option SourceEntry :=
  t.toList.findSome? fun e =>
    match e with
    | some x => if p x then some x else none
    | none => none

/-- R29: a SAMPLE_PAIR entry with this station and channel. -/
def matchesPair (station channel : Nat) (e : SourceEntry) : Bool :=
  match e.kind with
  | .samplePair _ _ => e.station == station && e.channel == channel
  | _ => false

/-- R29: a MARKER entry with this station and channel. -/
def matchesMarker (station channel : Nat) (e : SourceEntry) : Bool :=
  match e.kind with
  | .marker _ _ => e.station == station && e.channel == channel
  | _ => false

/-- R34: an ENVIRONMENT entry with this station. -/
def matchesEnvironment (station : Nat) (e : SourceEntry) : Bool :=
  match e.kind with
  | .environment => e.station == station
  | _ => false

/-- The pair count m, the samples per pair n and the head sample period of a SAMPLE payload (R7). -/
def pairCount (p : List Byte) : Nat := field p 0 1
def samplesPerPair (p : List Byte) : Nat := field p 1 1
def headPeriod (p : List Byte) : Nat := field p 2 2

/-- R28: the content of a SAMPLE payload is usable. -/
def sampleUsable (p : List Byte) : Bool :=
  decide (1 ≤ pairCount p) && decide (pairCount p ≤ 4) && decide (1 ≤ samplesPerPair p) &&
    decide (samplesPerPair p ≤ 8) && decide (10 + 6 * samplesPerPair p * pairCount p ≤ p.length)

/-- R28: the content of a MARKER payload is usable. -/
def markerUsable (p : List Byte) : Bool :=
  decide (1 ≤ field p 0 1) && decide (field p 0 1 ≤ 4) && decide (1 + 8 * field p 0 1 ≤ p.length)

/-- R28: the content of an ENVIRONMENT payload is usable. -/
def environmentUsable (p : List Byte) : Bool :=
  decide (1 ≤ field p 0 1) && decide (field p 0 1 ≤ 4) && decide (1 + 5 * field p 0 1 ≤ p.length)

/-- R32: sample i of pair j of a SAMPLE payload. -/
def sampleOf (p : List Byte) (i j : Nat) : SampleMsg :=
  let at_ := 10 + 6 * (i * pairCount p + j)
  { time := after (timeField p 4) (i * headPeriod p)
    c := signedField p at_ 2
    s := signedField p (at_ + 2) 2
    overrange := (field p (at_ + 4) 2) % 2 == 1
    period := headPeriod p }

/-- The samples of pair j, sample 0 first. -/
def samplesOf (p : List Byte) (j : Nat) : List SampleMsg :=
  (List.range (samplesPerPair p)).map fun i => sampleOf p i j

/-- R31, R32: a pair matched to an axis is delivered, or discarded with PERIOD_MISMATCH when its period is not the
entry's nominal period. -/
def deliverPair (p : List Byte) (j : Nat) (axis : AxisId) (nominal : Nat) (s : State) : State :=
  if headPeriod p = nominal then
    s.modBus fun b => { b with samples := modifyAt b.samples axis (· ++ samplesOf p j) }
  else s.raise .sfl .periodMismatch axis.val (headPeriod p * 65536 + nominal)

/-- R30: pair j of a usable SAMPLE frame is matched to an axis or ignored. -/
def takePair (station : Nat) (p : List Byte) (s : State) (j : Nat) : State :=
  match findSource s.sfl.table (matchesPair station j) with
  | some { kind := .samplePair axis nominal, .. } => deliverPair p j axis nominal s
  | _ => s

/-- R33: the entry that matches event e of a MARKER payload, if its polarity is RISE or FALL. -/
def markerEntry (t : Vector (Option SourceEntry) 16) (station : Nat) (p : List Byte) (e : Nat) : Option SourceEntry :=
  if field p (2 + 8 * e) 1 ≤ 1 ∧ field p (1 + 8 * e) 1 ≤ 7 then
    findSource t (matchesMarker station (field p (1 + 8 * e) 1))
  else none

/-- R33: event e of a usable MARKER frame is handed to CAP or ignored. -/
def takeEvent (station : Nat) (p : List Byte) (s : State) (e : Nat) : State :=
  match markerEntry s.sfl.table station p e with
  | some { kind := .marker source reference, .. } =>
      s.modBus fun b =>
        { b with markers := b.markers ++
            [⟨source, if field p (2 + 8 * e) 1 = 0 then .rise else .fall, timeField p (3 + 8 * e), reference⟩] }
  | _ => s

/-- R34: value k of a usable ENVIRONMENT frame from a station with an ENVIRONMENT entry. -/
def takeValue (p : List Byte) (s : State) (k : Nat) : State :=
  match finOf 4 (field p (1 + 5 * k) 1) with
  | some g =>
      (s.modBus fun b => { b with envValues := b.envValues ++ [⟨g, signedField p (2 + 5 * k) 4⟩] }).report
        .sfl .environmentValues
  | none => s

/-- The entry is present and its forward flag is off (R35). -/
def keepsFrame (e : Option SourceEntry) : Bool :=
  match e with
  | some x => !x.forward
  | none => false

/-- R35: a SAMPLE frame is consumed. -/
def sampleConsumed (t : Vector (Option SourceEntry) 16) (station : Nat) (p : List Byte) : Bool :=
  sampleUsable p && (List.range (pairCount p)).any fun j => keepsFrame (findSource t (matchesPair station j))

/-- R35: a MARKER frame is consumed. -/
def markerConsumed (t : Vector (Option SourceEntry) 16) (station : Nat) (p : List Byte) : Bool :=
  markerUsable p && (List.range (field p 0 1)).any fun e => keepsFrame (markerEntry t station p e)

/-- R35: an ENVIRONMENT frame is consumed. -/
def environmentConsumed (t : Vector (Option SourceEntry) 16) (station : Nat) (p : List Byte) : Bool :=
  environmentUsable p && keepsFrame (findSource t (matchesEnvironment station)) &&
    (List.range (field p 0 1)).any fun k => decide (field p (1 + 5 * k) 1 < 4)

/-- R35: a frame that is not consumed is offered to the forward queue when SFL takes it. -/
def forwardUnless (consumed : Bool) (bytes : List Byte) (s : State) : State :=
  if consumed then s else offerForward bytes none s

/-- R28 to R32, R35: SFL takes a SAMPLE frame. -/
def takeSample (bytes : List Byte) (s : State) : State :=
  let p := framePayload bytes
  let station := frameSource bytes
  let delivered := if sampleUsable p then (List.range (pairCount p)).foldl (takePair station p) s else s
  forwardUnless (sampleConsumed s.sfl.table station p) bytes delivered

/-- R28, R29, R33, R35: SFL takes a MARKER frame. -/
def takeMarker (bytes : List Byte) (s : State) : State :=
  let p := framePayload bytes
  let station := frameSource bytes
  let delivered := if markerUsable p then (List.range (field p 0 1)).foldl (takeEvent station p) s else s
  forwardUnless (markerConsumed s.sfl.table station p) bytes delivered

/-- R28, R29, R34, R35: SFL takes an ENVIRONMENT frame. -/
def takeEnvironment (bytes : List Byte) (s : State) : State :=
  let p := framePayload bytes
  let station := frameSource bytes
  let known := (findSource s.sfl.table (matchesEnvironment station)).isSome
  let delivered := if environmentUsable p && known then (List.range (field p 0 1)).foldl (takeValue p) s else s
  forwardUnless (environmentConsumed s.sfl.table station p) bytes delivered

end Sys2Proof.Machine
end

