-- ==== Sys2Proof/Machine/Reception.lean ====
section
/-! DEFINITION. A frame received whole at the inbound port: checked, classified and handled (R8, R10, R11), and the
rows of the table that name a received frame. The intake of MANAGE frames (R174). -/

namespace Sys2Proof.Machine

/-- R174: a MANAGE frame joins the intake, or finds it full and is dropped with MANAGE_OVERRUN. -/
def joinIntake (bytes : List Byte) (s : State) : State :=
  if s.mga.intake.length < Config.intakeDepth then
    let request : Request :=
      { source := frameSource bytes, broadcast := frameDest bytes == 255, tag := frameTag bytes
        payload := framePayload bytes, copy := s.cpt.nextCopy }
    s.modMga fun m => { m with intake := m.intake ++ [request] }
  else s.raise .mga .manageOverrun (frameSource bytes) (field (framePayload bytes) 0 1)

/-- R10: a MANAGE frame for this station is handed to the intake, a broadcast one is handed over and forwarded, any
other is forwarded. -/
def takeManage (bytes : List Byte) (s : State) : State :=
  if frameDest bytes = 255 then
    let copy := s.cpt.nextCopy
    offerForward bytes (some copy) ((joinIntake bytes s).modCpt fun c => { c with nextCopy := c.nextCopy + 1 })
  else if frameDest bytes = s.cpt.station then joinIntake bytes s
  else offerForward bytes none s

/-- R10: an assigned part handles a good frame by its kind and destination. -/
def handleAssigned (bytes : List Byte) (s : State) : State :=
  match frameKind bytes with
  | 1 => takeCycle bytes s
  | 3 => takeSample bytes s
  | 4 => takeMarker bytes s
  | 5 => takeEnvironment bytes s
  | 6 => takeManage bytes s
  | _ => offerForward bytes none s

/-- R11: an unassigned part acts on ASSIGN frames only. -/
def handleUnassigned (bytes : List Byte) (s : State) : State :=
  if frameKind bytes = kindAssign then takeAssign bytes s else offerForward bytes none s

/-- R8, R10, R11: what the part does with the bytes of a frame received whole. -/
def receive (bytes : List Byte) (s : State) : State :=
  if goodFrame bytes then
    let s := countGoodFrame s
    if assigned s then handleAssigned bytes s else handleUnassigned bytes s
  else dropBadFrame bytes s

/-- BAD_FRAME (R8). The part acts on the bytes, so each frame row is the arrival of its bytes (log 7). -/
def execBadFrame (bytes : List Byte) (s : State) : Host.Outcome State Fault Refusal :=
  .next (receive bytes s)

/-- CYCLE (R17, R18, R21). -/
def execCycle (bytes : List Byte) (s : State) : Host.Outcome State Fault Refusal :=
  .next (receive bytes s)

/-- ASSIGN (R12). -/
def execAssign (bytes : List Byte) (s : State) : Host.Outcome State Fault Refusal :=
  .next (receive bytes s)

/-- SAMPLE (R30). -/
def execSample (bytes : List Byte) (s : State) : Host.Outcome State Fault Refusal :=
  .next (receive bytes s)

/-- MARKER (R33). -/
def execMarker (bytes : List Byte) (s : State) : Host.Outcome State Fault Refusal :=
  .next (receive bytes s)

/-- ENVIRONMENT (R34). -/
def execEnvironment (bytes : List Byte) (s : State) : Host.Outcome State Fault Refusal :=
  .next (receive bytes s)

/-- MANAGE (R174). -/
def execManage (bytes : List Byte) (s : State) : Host.Outcome State Fault Refusal :=
  .next (receive bytes s)

/-- FORWARDED_FRAME (R10, R13). -/
def execForwardedFrame (bytes : List Byte) (s : State) : Host.Outcome State Fault Refusal :=
  .next (receive bytes s)

end Sys2Proof.Machine
end

