-- ==== Sys2Proof/Machine/Resets.lean ====
section
/-! DEFINITION. The five resets: POWER_ON, PIN, SUPPLY_DIP, FULL_REQUEST and RESTART, and the request FULL RESET (R23,
R36, R55, R80, R101, R147, R159, R173, R186 to R188, R199). -/

namespace Sys2Proof.Machine

/-! ### The four full resets -/

/-- R23, R188: every block takes its defaults and the reset cause is set. A frame being sent completes (R16); the
commands that wait are not the part's state, and the index of the free values only names them. -/
def fullReset (cause : ResetCause) (s : State) : State :=
  { State.reset with
    cpt := { transmitter := s.cpt.transmitter }
    mga := { cause := cause }
    freeIndex := s.freeIndex
    pending := s.pending }

/-- POWER_ON (R23). -/
def execPowerOn (s : State) : Host.Outcome State Fault Refusal :=
  .next (fullReset .powerOn s)

/-- PIN (R23). -/
def execPin (s : State) : Host.Outcome State Fault Refusal :=
  .next (fullReset .pin s)

/-- SUPPLY_DIP (R23). -/
def execSupplyDip (s : State) : Host.Outcome State Fault Refusal :=
  .next (fullReset .supplyDip s)

/-- FULL_REQUEST (R187): the reset that a FULL RESET request waits for, once its condition holds. Before that, or with
no FULL RESET taken, nothing happens. -/
def execFullRequest (s : State) : Host.Outcome State Fault Refusal :=
  .next (if resetBegun s then fullReset .fullRequest s else s)

/-- R187: MGA takes FULL RESET: an addressed one is answered DONE and waits for that response to start, a broadcast one
for the forwarded copy of its frame. -/
def takeFullReset (r : Request) (s : State) : State :=
  s.modMga fun m =>
    if r.broadcast then { m with executing := none, resetWait := some (.copy r.copy) }
    else
      { m with
        executing := none, resetWait := some .response, responses := m.responses ++ [responseTo r .done [] true] }

/-- FULL_RESET (R187). -/
def execFullReset (s : State) : Host.Outcome State Fault Refusal :=
  .next <| match s.mga.executing with
    | some r => if r.isOp .fullReset then takeFullReset r s else s
    | none => s

/-! ### RESTART (R186) -/

/-- R23: CPT takes a RESTART. -/
def restartCpt (c : Cpt) : Cpt :=
  { c with bucket := 0, decay := 0, fairness := 0, established := false }

/-- R55, R80, R102, R126: an Axis Engine takes a RESTART. -/
def restartAxis (x : Axis) : Axis :=
  { x with ctx := {}, cal := abortCal x.cal }

/-- R84, R101: an environment group at a RESTART. -/
def restartGroup (g : EnvGroup) : EnvGroup :=
  { g with applied := g.default_, lastValue := g.default_, lastTime := 0, stale := true }

/-- R147, R159: CAP takes a RESTART. -/
def restartCap (c : Cap) : Cap :=
  { c with state := .stopped, entries := [], lastEdge := Vector.replicate 8 none }

/-- R173: RQU takes a RESTART. -/
def restartRqu (q : Rqu) : Rqu :=
  { delivery := q.delivery }

/-- R199: FMN takes a RESTART. -/
def restartFmn (f : Fmn) : Fmn :=
  { f with counters := Vector.replicate 8 0 }

/-- R186: one block takes the RESTART. A record that CAP has handed over before RQU takes it is emptied with the rest
(R173); other messages are taken afterwards, in the state the RESTART leaves (R36, R101, R199). -/
def restartBlock (s : State) (b : Block) : State :=
  match b with
  | .cpt => s.modCpt restartCpt
  | .sfl => s
  | .axe a => s.modAxis a restartAxis
  | .scu => s.modScu fun u => { u with groups := u.groups.map restartGroup }
  | .cap => s.modCap restartCap
  | .rqu => (s.modRqu restartRqu).modBus fun m => { m with records := [] }
  | .mga => s
  | .fmn => s.modFmn restartFmn

/-- R186: the blocks that take the RESTART in this step. -/
def restartNow (left : List Block) : Option Block → List Block
  | none => left
  | some b => left.filter (· == b)

/-- R186: the blocks that have still to take it afterwards. -/
def restartLater (left : List Block) : Option Block → List Block
  | none => []
  | some b => left.filter (· != b)

/-- R186: every block has taken the RESTART: the cause is set and the answer DONE placed, unless it was a broadcast. -/
def endRestart (r : Request) (s : State) : State :=
  placeAnswer r .done [] (s.modMga fun m => { m with cause := .restartRequest })

/-- R186: the RESTART that MGA is executing is taken by the named blocks. -/
def takeRestart (r : Request) (block : Option Block) (s : State) : State :=
  let left := restartLater s.mga.restartLeft block
  let s := (restartNow s.mga.restartLeft block).foldl restartBlock s
  let s := (s.modMga fun m => { m with restartLeft := left }).settleFairness
  if left.isEmpty then endRestart r s else s

/-- RESTART (R186). -/
def execRestart (block : Option Block) (s : State) : Host.Outcome State Fault Refusal :=
  .next <| match s.mga.executing with
    | some r => if r.isOp .restart then takeRestart r block s else s
    | none => s

end Sys2Proof.Machine
end

