-- ==== Sys2Proof/Machine/Tables.lean ====
section
/-! DEFINITION. READ TABLE and WRITE TABLE: the twelve configuration tables and the tests each owner makes of a write
(R25 to R27, R52, R87, R94, R129, R130, R150, R167, R181 to R183, R193, R198). -/

namespace Sys2Proof.Machine

/-! ### READ TABLE (R180, R181) -/

/-- R180: the number of indices and the read size of a table. The WINDOW header, index 32, is read alone (R181). -/
def tableShape : Nat → Option (Nat × Nat)
  | 1 => some (16, 10) | 2 => some (6, 43) | 3 => some (384, 1) | 4 => some (4, 14) | 5 => some (4, 27)
  | 6 => some (32, 14) | 7 => some (13, 3) | 8 => some (4, 11) | 9 => some (23, 1) | 10 => some (8, 1)
  | 11 => some (1, 8) | 12 => some (1, 6)
  | _ => none

/-- The read names index 32 of the WINDOW table and nothing else. -/
def readsHeader (table first count : Nat) : Bool :=
  table == 6 && first == 32 && count == 1

/-- R181: the read is in range. -/
def readInRange (table first count : Nat) : Bool :=
  match tableShape table with
  | none => false
  | some (indices, size) =>
      decide (1 ≤ count) && (readsHeader table first count
        || (decide (first + count ≤ indices) && decide (count * size ≤ 510)))

/-- Entry i of a vector, if there is one. -/
def entryAt {α : Type} {n : Nat} (v : Vector α n) (i : Nat) (f : α → List Byte) : List Byte :=
  match finOf n i with
  | some k => f v[k]
  | none => []

/-- R181, R184: the WINDOW header with the eight last-edge positions. -/
def headerBytes (c : Cap) : List Byte :=
  windowHeaderBytes c.header ++ c.lastEdge.toList.flatMap lastEdgeBytes

/-- R184: one entry of a table in its read encoding. -/
def readEntry (s : State) (table i : Nat) : List Byte :=
  match table with
  | 1 => entryAt s.sfl.table i sourceBytes
  | 2 => entryAt s.axes i fun x => axisSettingsBytes x.settings
  | 3 => entryAt s.axes (i / 64) fun x => entryAt x.nonlinear (i % 64) (leInt 1)
  | 4 => entryAt s.scu.composites i compositeBytes
  | 5 => entryAt s.scu.groups i groupBytes
  | 6 => if i = 32 then headerBytes s.cap else entryAt s.cap.windows i windowEntryBytes
  | 7 => entryAt s.cap.map i capMapBytes
  | 8 => entryAt s.cap.slots i compareSlotBytes
  | 9 => entryAt s.fmn.routes i fun r => [routeByte r]
  | 10 => entryAt s.fmn.selections i (leBytes 1)
  | 11 => deliveryBytes s.rqu.delivery
  | 12 => timingBytes s.cap.timeout s.cpt.chainLimit
  | _ => []

/-- R181: the entries first … first + count − 1, back to back. -/
def readRange (s : State) (table first count : Nat) : List Byte :=
  (List.range count).flatMap fun k => readEntry s table (first + k)

/-- R181: the owner block's answer to a READ TABLE. -/
def answerRead (r : Request) (s : State) : Answer :=
  let count := field r.args 0 1
  if readInRange r.subject r.index count then
    { state := s, status := .done, data := readRange s r.subject r.index count }
  else plain s .refusedRange

/-- READ_TABLE (R181). -/
def execReadTable (s : State) : Host.Outcome State Fault Refusal :=
  .next (serve (·.isOp .readTable) answerRead s)

/-! ### WRITE TABLE (R182) -/

/-- R182: the index and the entry of a write, if the index lies in the table's range, the arguments hold the entry and
every field lies in its range. -/
def entryOf {α : Type} (n size : Nat) (decode : List Byte → Option α) (r : Request) : Option (Fin n × α) :=
  match finOf n r.index with
  | some i => if size ≤ r.args.length then (decode r.args).map fun x => (i, x) else none
  | none => none

/-! #### SOURCE (R25 to R27) -/

/-- R26: the axis of this entry, a valid SAMPLE_PAIR one, is not OFF. -/
def pairBusy (s : State) (e : Option SourceEntry) : Bool :=
  match e with
  | some { kind := .samplePair a _, .. } => (s.axes[a]).ctx.state != .off
  | _ => false

/-- R26: this entry is a valid MARKER one. -/
def isMarker (e : Option SourceEntry) : Bool :=
  match e with
  | some { kind := .marker _ _, .. } => true
  | _ => false

/-- R26: the state conditions that refuse a write of `new` at the index that holds `old`. -/
def sourceWriteRefused (s : State) (old new : Option SourceEntry) : Bool :=
  pairBusy s old || pairBusy s new || ((isMarker old || isMarker new) && s.cap.state == .armed)

/-- R24: two kinds of one class. -/
def sameClass (x y : SourceKind) : Bool :=
  match x, y with
  | .samplePair _ _, .samplePair _ _ => true
  | .marker _ _, .marker _ _ => true
  | .environment, .environment => true
  | _, _ => false

/-- R27: two kinds that feed the same axis, name the same reference axis or name the same marker source. -/
def sameTarget (x y : SourceKind) : Bool :=
  match x, y with
  | .samplePair a _, .samplePair b _ => a == b
  | .marker m r, .marker n q => m == n || (r.isSome && r == q)
  | _, _ => false

/-- R27: two valid entries that the table may not hold together. -/
def entriesClash (x y : SourceEntry) : Bool :=
  (x.station == y.station && x.channel == y.channel && sameClass x.kind y.kind) || sameTarget x.kind y.kind

/-- R27: the written entry clashes with a valid entry at another index. -/
def sourceClashes (t : Vector (Option SourceEntry) 16) (i : Fin 16) (new : Option SourceEntry) : Bool :=
  match new with
  | none => false
  | some x => (List.finRange 16).any fun j => j != i && (t[j]).any (entriesClash x)

/-- R25: SFL's answer to a write of the Source Table. -/
def writeSource (r : Request) (s : State) : Answer :=
  match entryOf 16 10 sourceOf r with
  | none => plain s .refusedRange
  | some (i, new) =>
      if sourceWriteRefused s s.sfl.table[i] new then plain s .refusedState
      else if sourceClashes s.sfl.table i new then plain s .refusedConflict
      else plain (s.modSfl fun u => { u with table := modifyAt u.table i fun _ => new }) .done

/-- WRITE_TABLE_SOURCE (R25). -/
def execWriteTableSource (s : State) : Host.Outcome State Fault Refusal :=
  .next (serve (·.isWrite 1) writeSource s)

/-! #### AXIS and NONLINEAR (R52) -/

/-- R52: the Axis Engine's answer to a write of an Axis Table entry. -/
def writeAxis (r : Request) (s : State) : Answer :=
  match entryOf 6 43 axisSettingsOf r with
  | none => plain s .refusedRange
  | some (a, new) =>
      if (s.axes[a]).ctx.state ≠ .off then plain s .refusedState
      else plain (s.modAxis a fun x => { x with settings := new }) .done

/-- WRITE_TABLE_AXIS (R52). -/
def execWriteTableAxis (s : State) : Host.Outcome State Fault Refusal :=
  .next (serve (·.isWrite 2) writeAxis s)

/-- The axis and the entry number of a Nonlinearity Table index, 64·a + k (R52). -/
def nonlinearAxis (i : Fin 384) : AxisId := ⟨i.val / 64, by omega⟩
def nonlinearEntry (i : Fin 384) : Fin 64 := ⟨i.val % 64, by omega⟩

/-- R52: the Axis Engine's answer to a write of a Nonlinearity Table entry. -/
def writeNonlinear (r : Request) (s : State) : Answer :=
  match entryOf 384 1 (fun b => some (signedField b 0 1)) r with
  | none => plain s .refusedRange
  | some (i, new) =>
      if (s.axes[nonlinearAxis i]).ctx.state ≠ .off then plain s .refusedState
      else
        plain (s.modAxis (nonlinearAxis i) fun x =>
          { x with nonlinear := modifyAt x.nonlinear (nonlinearEntry i) fun _ => new }) .done

/-- WRITE_TABLE_NONLINEAR (R52). -/
def execWriteTableNonlinear (s : State) : Host.Outcome State Fault Refusal :=
  .next (serve (·.isWrite 3) writeNonlinear s)

/-! #### COMPOSITE and ENVGROUP (R94, R87) -/

/-- R94: the entry's two inputs are the same axis. -/
def inputsEqual : CompositeEntry → Bool
  | .unused => false
  | .weighted a b _ _ _ => a == b
  | .diffRatio a b _ => a == b

/-- R94: SCU's answer to a write of the Composite Table. -/
def writeComposite (r : Request) (s : State) : Answer :=
  match entryOf 4 14 compositeOf r with
  | none => plain s .refusedRange
  | some (c, new) =>
      if s.cap.state = .armed then plain s .refusedState
      else if inputsEqual new then plain s .refusedConflict
      else plain (s.modScu fun u => { u with composites := modifyAt u.composites c fun _ => new }) .done

/-- WRITE_TABLE_COMPOSITE (R94). -/
def execWriteTableComposite (s : State) : Host.Outcome State Fault Refusal :=
  .next (serve (·.isWrite 4) writeComposite s)

/-- R87: the three settings replaced; the running state is kept. -/
def withSettings (x : GroupSettings) (g : EnvGroup) : EnvGroup :=
  { g with default_ := x.default_, slewLimit := x.slewLimit, staleLimit := x.staleLimit }

/-- R87: SCU's answer to a write of the Environment Group Table. -/
def writeEnvgroup (r : Request) (s : State) : Answer :=
  match entryOf 4 12 groupSettingsOf r with
  | none => plain s .refusedRange
  | some (g, new) => plain (s.modScu fun u => { u with groups := modifyAt u.groups g (withSettings new) }) .done

/-- WRITE_TABLE_ENVGROUP (R87). -/
def execWriteTableEnvgroup (s : State) : Host.Outcome State Fault Refusal :=
  .next (serve (·.isWrite 5) writeEnvgroup s)

/-! #### WINDOW, CAPMAP and COMPARE (R150, R129, R130) -/

/-- R150: a write of the header, index 32. -/
def writeHeader (r : Request) (s : State) : Answer :=
  match (if 8 ≤ r.args.length then windowHeaderOf r.args else none) with
  | none => plain s .refusedRange
  | some new =>
      if s.cap.state = .armed then plain s .refusedState
      else plain (s.modCap fun c => { c with header := new }) .done

/-- R150: a write of a window entry, index 0 … 31. -/
def writeEntry (r : Request) (s : State) : Answer :=
  match entryOf 32 14 windowEntryOf r with
  | none => plain s .refusedRange
  | some (i, new) =>
      if s.cap.state = .armed then plain s .refusedState
      else plain (s.modCap fun c => { c with windows := modifyAt c.windows i fun _ => new }) .done

/-- R150: CAP's answer to a write of the Window Table. -/
def writeWindow (r : Request) (s : State) : Answer :=
  if r.index = 32 then writeHeader r s else writeEntry r s

/-- WRITE_TABLE_WINDOW (R150). -/
def execWriteTableWindow (s : State) : Host.Outcome State Fault Refusal :=
  .next (serve (·.isWrite 6) writeWindow s)

/-- R129: CAP's answer to a write of the Capture Map. -/
def writeCapmap (r : Request) (s : State) : Answer :=
  match entryOf 13 3 capMapOf r with
  | none => plain s .refusedRange
  | some (i, new) =>
      if s.cap.state = .armed then plain s .refusedState
      else plain (s.modCap fun c => { c with map := modifyAt c.map i fun _ => new }) .done

/-- WRITE_TABLE_CAPMAP (R129). -/
def execWriteTableCapmap (s : State) : Host.Outcome State Fault Refusal :=
  .next (serve (·.isWrite 7) writeCapmap s)

/-- R130: CAP's answer to a write of the Compare Table. -/
def writeCompare (r : Request) (s : State) : Answer :=
  match entryOf 4 11 compareSlotOf r with
  | none => plain s .refusedRange
  | some (j, new) => plain (s.modCap fun c => { c with slots := modifyAt c.slots j fun _ => new }) .done

/-- WRITE_TABLE_COMPARE (R130). -/
def execWriteTableCompare (s : State) : Host.Outcome State Fault Refusal :=
  .next (serve (·.isWrite 8) writeCompare s)

/-! #### ROUTE and COUNTSEL (R183, R193, R198) -/

/-- R193: FMN's answer to a write of the Route Table. -/
def writeRoute (r : Request) (s : State) : Answer :=
  match entryOf 23 1 routeOf r with
  | none => plain s .refusedRange
  | some (k, new) => plain (s.modFmn fun f => { f with routes := modifyAt f.routes k fun _ => new }) .done

/-- WRITE_TABLE_ROUTE (R193). -/
def execWriteTableRoute (s : State) : Host.Outcome State Fault Refusal :=
  .next (serve (·.isWrite 9) writeRoute s)

/-- R198: FMN's answer to a write of a counter's selection, which clears the counter. -/
def writeCountsel (r : Request) (s : State) : Answer :=
  match entryOf 8 1 selectionOf r with
  | none => plain s .refusedRange
  | some (j, new) =>
      plain (s.modFmn fun f =>
        { f with
          selections := modifyAt f.selections j fun _ => new
          counters := modifyAt f.counters j fun _ => 0 }) .done

/-- WRITE_TABLE_COUNTSEL (R198). -/
def execWriteTableCountsel (s : State) : Host.Outcome State Fault Refusal :=
  .next (serve (·.isWrite 10) writeCountsel s)

/-! #### DELIVERY and TIMING (R167, R183) -/

/-- R167: the settings replaced; a new reader station ends a running drain. -/
def withDelivery (d : Delivery) (q : Rqu) : Rqu :=
  { q with delivery := d, drain := if d.reader = q.delivery.reader then q.drain else 0 }

/-- R167: RQU's answer to a write of the Delivery settings; the offer is examined anew with them. -/
def writeDelivery (r : Request) (s : State) : Answer :=
  match entryOf 1 8 deliveryOf r with
  | none => plain s .refusedRange
  | some (_, new) => plain ((s.modRqu (withDelivery new)).refreshAge) .done

/-- WRITE_TABLE_DELIVERY (R167). -/
def execWriteTableDelivery (s : State) : Host.Outcome State Fault Refusal :=
  .next (serve (·.isWrite 11) writeDelivery s).settleFairness

/-- R183, R20: the answer to a write of the TIMING table: the capture timeout in CAP and the chain-down limit in CPT,
where it acts on the running timer at once. -/
def writeTiming (r : Request) (s : State) : Answer :=
  match entryOf 1 6 timingOf r with
  | none => plain s .refusedRange
  | some (_, timeout, limit) =>
      plain (checkChainDown
        ((s.modCap fun c => { c with timeout := timeout }).modCpt fun c => { c with chainLimit := limit })) .done

/-- WRITE_TABLE_TIMING (R183). -/
def execWriteTableTiming (s : State) : Host.Outcome State Fault Refusal :=
  .next (serve (·.isWrite 12) writeTiming s)

end Sys2Proof.Machine
end

