-- ==== Sys2Proof/Machine/Transmit.lean ====
section
/-! DEFINITION. The outbound port: the arbiter, the frames the part fills, and the hand-over of records (R6, R7, R14 to
R16, R163). The rows TRANSMIT_START and FRAME_SENT. -/

namespace Sys2Proof.Machine

/-- The record flags byte (R7): bit 0 TAINT, bit 1 UNGATED, bit 2 ENV_STALE. -/
def recordFlags (r : Record) : Byte :=
  (if r.taint then 1#8 else 0#8) ||| (if r.ungated then 2#8 else 0#8) ||| (if r.envStale then 4#8 else 0#8)

/-- One axis entry of a record (R7). -/
def axisEntryBytes (e : AxisEntry) : List Byte :=
  leBytes 1 e.axis ++ leBytes 1 e.status.code ++ leInt 6 e.value

/-- A capture record with its sequence number and drops field (R7). -/
def recordBytes (drops : Nat) (q : QueuedRecord) : List Byte :=
  leBytes 2 q.sequence ++ leBytes 2 drops ++ leBytes 1 q.body.kind.code ++ leBytes 1 q.body.source.val
    ++ leBytes 1 q.body.polarity.code ++ leBytes 1 q.body.zone ++ leBytes 6 q.body.time.toNat
    ++ [recordFlags q.body] ++ leBytes 1 q.body.fields.length ++ q.body.fields.flatMap axisEntryBytes

/-- R163: the drops field of the first record is the drop counter; those of the others are 0. -/
def recordsPayload (drops : Nat) (qs : List QueuedRecord) : List Byte :=
  leBytes 1 qs.length ++ match qs with
    | [] => []
    | q :: rest => recordBytes drops q ++ rest.flatMap (recordBytes 0)

/-- R163: the number of records the next RECORD frame carries. -/
def handOverCount (r : Rqu) : Nat :=
  let n := min 4 r.queue.length
  if r.delivery.pull then min n r.drain else n

/-- R6, R163: the RECORD frame that the transmitter would start now. -/
def recordFrame (s : State) : List Byte :=
  let qs := s.rqu.queue.take (handOverCount s.rqu)
  let tag := match qs with
    | [] => 0
    | q :: _ => q.sequence
  buildFrame kindRecord s.rqu.delivery.reader s.cpt.station 0 tag s.cpt.observed (recordsPayload s.rqu.drops qs)

/-- R6, R176: the RESPONSE frame of an answer, as the transmitter takes it. -/
def responseFrame (s : State) (r : Response) : List Byte :=
  buildFrame kindResponse r.dest s.cpt.station 0 r.tag s.cpt.observed
    (leBytes 1 r.code ++ leBytes 1 r.status.code ++ r.data)

/-- R163, R168: the records handed over leave the queue, the drop counter returns to 0 and a drain goes on. -/
def handOver (n : Nat) (r : Rqu) : Rqu :=
  { r with queue := r.queue.drop n, drops := 0, drain := r.drain - n }

/-- R16: the transmitter starts a frame with these bytes. -/
def transmit (bytes : List Byte) (s : State) : State :=
  s.modCpt fun c => { c with transmitter := some bytes }

/-- R13, R16: the oldest forwarded frame goes. -/
def sendForward (f : ForwardedFrame) (rest : List ForwardedFrame) (s : State) : State :=
  (transmit f.bytes (s.modCpt fun c => { c with forward := rest })).report .cpt .framesForwarded

/-- R163, R16: a RECORD frame goes. -/
def sendRecords (s : State) : State :=
  let n := handOverCount s.rqu
  let frame := recordFrame s
  let s := (transmit frame (s.modRqu (handOver n))).refreshAge
  (s.report .cpt .framesInserted).reportTimes .cpt .recordsTransmitted n

/-- R14, R16: the insert frame goes: the oldest response if there is one, and otherwise a RECORD frame. -/
def sendInsert (s : State) : State :=
  match s.mga.responses with
  | r :: rest =>
      (transmit (responseFrame s r) (s.modMga fun m => { m with responses := rest })).report .cpt .framesInserted
  | [] => sendRecords s

/-- R15: the fairness count set. -/
def setFairness (n : Nat) (s : State) : State :=
  s.modCpt fun c => { c with fairness := n }

/-- R15: the arbiter chooses a frame and the transmitter starts it. -/
def arbitrate (s : State) : State :=
  match s.cpt.forward with
  | f :: rest =>
      if insertWaiting s then
        if s.cpt.fairness < 4 then setFairness (s.cpt.fairness + 1) (sendForward f rest s)
        else setFairness 0 (sendInsert s)
      else setFairness 0 (sendForward f rest s)
  | [] => if insertWaiting s then setFairness 0 (sendInsert s) else s

/-- TRANSMIT_START (R15): with the transmitter free, a frame waiting and no reset begun that has not taken effect (R16), a frame starts.
Otherwise nothing happens. -/
def execTransmitStart (s : State) : Host.Outcome State Fault Refusal :=
  .next (if s.cpt.transmitter.isSome || transmitHeld s then s else arbitrate s)

/-- FRAME_SENT (R16): the last trailer byte has gone and the transmitter is free. -/
def execFrameSent (s : State) : Host.Outcome State Fault Refusal :=
  .next (s.modCpt fun c => { c with transmitter := none })

end Sys2Proof.Machine
end

