-- ==== Sys2Proof/Machine/Dispatch.lean ====
section
/-! DEFINITION. One arm per command: the meaning of each row of the table. -/

namespace Sys2Proof.Machine

def exec (i : Instr) (s : State) : Host.Outcome State Fault Refusal :=
  match i with
  | .badFrame bytes => Sys2Proof.Machine.execBadFrame bytes s
  | .linkErrorDecay => Sys2Proof.Machine.execLinkErrorDecay s
  | .cycle bytes => Sys2Proof.Machine.execCycle bytes s
  | .assign bytes => Sys2Proof.Machine.execAssign bytes s
  | .sample bytes => Sys2Proof.Machine.execSample bytes s
  | .marker bytes => Sys2Proof.Machine.execMarker bytes s
  | .environment bytes => Sys2Proof.Machine.execEnvironment bytes s
  | .manage bytes => Sys2Proof.Machine.execManage bytes s
  | .forwardedFrame bytes => Sys2Proof.Machine.execForwardedFrame bytes s
  | .chainDown => Sys2Proof.Machine.execChainDown s
  | .axisChainLoss axis => Sys2Proof.Machine.execAxisChainLoss axis s
  | .transmitStart => Sys2Proof.Machine.execTransmitStart s
  | .frameSent => Sys2Proof.Machine.execFrameSent s
  | .always => Sys2Proof.Machine.execAlways s
  | .powerOn => Sys2Proof.Machine.execPowerOn s
  | .pin => Sys2Proof.Machine.execPin s
  | .supplyDip => Sys2Proof.Machine.execSupplyDip s
  | .fullRequest => Sys2Proof.Machine.execFullRequest s
  | .requestBegin => Sys2Proof.Machine.execRequestBegin s
  | .unknownRequest => Sys2Proof.Machine.execUnknownRequest s
  | .identify => Sys2Proof.Machine.execIdentify s
  | .readTable => Sys2Proof.Machine.execReadTable s
  | .writeTableSource => Sys2Proof.Machine.execWriteTableSource s
  | .writeTableAxis => Sys2Proof.Machine.execWriteTableAxis s
  | .writeTableNonlinear => Sys2Proof.Machine.execWriteTableNonlinear s
  | .writeTableComposite => Sys2Proof.Machine.execWriteTableComposite s
  | .writeTableEnvgroup => Sys2Proof.Machine.execWriteTableEnvgroup s
  | .writeTableWindow => Sys2Proof.Machine.execWriteTableWindow s
  | .writeTableCapmap => Sys2Proof.Machine.execWriteTableCapmap s
  | .writeTableCompare => Sys2Proof.Machine.execWriteTableCompare s
  | .writeTableRoute => Sys2Proof.Machine.execWriteTableRoute s
  | .writeTableCountsel => Sys2Proof.Machine.execWriteTableCountsel s
  | .writeTableDelivery => Sys2Proof.Machine.execWriteTableDelivery s
  | .writeTableTiming => Sys2Proof.Machine.execWriteTableTiming s
  | .axisStart => Sys2Proof.Machine.execAxisStart s
  | .axisStop => Sys2Proof.Machine.execAxisStop s
  | .accept => Sys2Proof.Machine.execAccept s
  | .zeroAtReference => Sys2Proof.Machine.execZeroAtReference s
  | .zeroCancel => Sys2Proof.Machine.execZeroCancel s
  | .preset => Sys2Proof.Machine.execPreset s
  | .calibrate => Sys2Proof.Machine.execCalibrate s
  | .calibrateAbort => Sys2Proof.Machine.execCalibrateAbort s
  | .axisStatus => Sys2Proof.Machine.execAxisStatus s
  | .arm => Sys2Proof.Machine.execArm s
  | .stopCapture => Sys2Proof.Machine.execStopCapture s
  | .manualCapture => Sys2Proof.Machine.execManualCapture s
  | .drain => Sys2Proof.Machine.execDrain s
  | .flushQueue => Sys2Proof.Machine.execFlushQueue s
  | .queueStatus => Sys2Proof.Machine.execQueueStatus s
  | .readErrors => Sys2Proof.Machine.execReadErrors s
  | .clearErrors => Sys2Proof.Machine.execClearErrors s
  | .readCounters => Sys2Proof.Machine.execReadCounters s
  | .clearCounters => Sys2Proof.Machine.execClearCounters s
  | .restart block => Sys2Proof.Machine.execRestart block s
  | .fullReset => Sys2Proof.Machine.execFullReset s
  | .sampleArrival axis => Sys2Proof.Machine.execSampleArrival axis s
  | .bucketDecay axis => Sys2Proof.Machine.execBucketDecay axis s
  | .calibrationTimeout axis => Sys2Proof.Machine.execCalibrationTimeout axis s
  | .axisSilence axis => Sys2Proof.Machine.execAxisSilence axis s
  | .envValue => Sys2Proof.Machine.execEnvValue s
  | .groupStale => Sys2Proof.Machine.execGroupStale s
  | .edgeTrigger => Sys2Proof.Machine.execEdgeTrigger s
  | .referenceEvent => Sys2Proof.Machine.execReferenceEvent s
  | .zeroNotice axis => Sys2Proof.Machine.execZeroNotice axis s
  | .zeroOutcome axis => Sys2Proof.Machine.execZeroOutcome axis s
  | .captureTimeout => Sys2Proof.Machine.execCaptureTimeout s
  | .compareFire => Sys2Proof.Machine.execCompareFire s
  | .halt => Sys2Proof.Machine.execHalt s
  | .recordQueued => Sys2Proof.Machine.execRecordQueued s
  | .flushAge => Sys2Proof.Machine.execFlushAge s
  | .errorRaise source => Sys2Proof.Machine.execErrorRaise source s
  | .attentionSourceRaise source => Sys2Proof.Machine.execAttentionSourceRaise source s
  | .eventReport source => Sys2Proof.Machine.execEventReport source s

end Sys2Proof.Machine
end

