-- ==== Sys2Proof/Safety.lean ====
section
/-! DEFINITION. What the manual says always holds of the part: the limits of its queues and counters, the legal axis
contexts, the settings' ranges, the tables' consistency, the log's consistency, and the frames it sends; and the names
that statements use. Each is a predicate of one state, in the manual's own terms; the certificates state which of them
every step keeps. -/

namespace Sys2Proof.Machine

/-! ### Queues and counters -/

/-- The limits of CPT (R9, R13, R15). -/
abbrev Cpt.bounded (c : Cpt) : Prop :=
  c.forward.length ≤ 8 ∧ c.fairness ≤ 4 ∧ c.bucket ≤ 255 ∧ c.decay < 1000

/-- The limits of MGA (R14, R174, R175): while a request is being executed, the response list has room for its answer. -/
abbrev Mga.bounded (m : Mga) : Prop :=
  m.intake.length ≤ 4 ∧ m.responses.length + (if m.executing.isSome then 1 else 0) ≤ 4

/-- The limits of RQU (R160 to R162, R168). -/
abbrev Rqu.bounded (q : Rqu) : Prop :=
  q.queue.length ≤ 128 ∧ q.drain ≤ q.queue.length ∧ q.drops ≤ 65535 ∧ q.sequence < 65536

/-- Every queue and counter that the manual limits is within its limit. -/
abbrev State.bounded (s : State) : Prop :=
  s.cpt.bounded ∧ s.mga.bounded ∧ s.rqu.bounded ∧ s.cap.entries.length ≤ 16

/-! ### Axis contexts -/

/-- R71: an entry of the ring holds a count within ±(2^47 − 1). -/
abbrev HistEntry.legal (h : HistEntry) : Prop :=
  within48 h.count = true

/-- R57, R64, R66, R71: the ranges of an axis context, whatever its state. -/
abbrev AxisContext.ranged (c : AxisContext) : Prop :=
  within48 c.count = true ∧ c.pcPrev < 4096 ∧ -1048575 ≤ c.tracking ∧ c.tracking ≤ 1048575 ∧ c.bucket ≤ 255
    ∧ c.ring.length ≤ 64 ∧ ∀ h ∈ c.ring, h.legal

/-- R57, R61, R78, R103: an axis in OFF reads as the OFF values; an axis in ACQUIRE has no history, no count and no
armed zero; an axis in REFERENCED has had a zero or preset applied; a calibration runs in a counting state only. -/
abbrev Axis.consistent (x : Axis) : Prop :=
  (x.ctx.state = .off → x.ctx = {})
    ∧ (x.ctx.state = .acquire → x.ctx.ring = [] ∧ x.ctx.count = 0 ∧ x.ctx.zero = .none)
    ∧ (x.ctx.state = .referenced → x.ctx.refKind ≠ .none)
    ∧ (x.cal.outcome = .running → x.ctx.counting = true)

/-- Every axis context is legal. -/
abbrev State.axesLegal (s : State) : Prop :=
  ∀ a : AxisId, (s.axes[a]).ctx.ranged ∧ (s.axes[a]).consistent

/-- R60, R115, R117, R119: the counts of one axis: a decay count stays below its interval, a calibration's samples seen
stop at its sample limit, which a running one has not reached, and its motion stops at 2^32 − 1. -/
abbrev Axis.counted (x : Axis) : Prop :=
  x.ctx.decay < x.settings.decayInterval ∧ x.cal.required ≤ 255 ∧ x.cal.sampleLimit ≤ 1048576
    ∧ x.cal.seen ≤ x.cal.sampleLimit ∧ x.cal.motion ≤ 4294967295
    ∧ (x.cal.outcome = .running → x.cal.seen < x.cal.sampleLimit)

/-- The counts of every axis are within their limits. -/
abbrev State.axesCounted (s : State) : Prop :=
  ∀ a : AxisId, (s.axes[a]).counted

/-! ### Settings and calibration -/

/-- A signed 16-bit value. -/
abbrev isS16 (z : Int) : Prop := -32768 ≤ z ∧ z ≤ 32767

/-- R115, R118: what a running calibration has gathered lies in the range of the raw samples, and S at the extremes of
C lies between the extremes of S. -/
abbrev CalRecord.gathered (r : CalRecord) : Prop :=
  isS16 r.maxC ∧ isS16 r.minC ∧ isS16 r.maxS ∧ isS16 r.minS ∧ r.minC ≤ r.maxC
    ∧ r.minS ≤ r.sAtMaxC ∧ r.sAtMaxC ≤ r.maxS ∧ r.minS ≤ r.sAtMinC ∧ r.sAtMinC ≤ r.maxS

/-- R51, R54: every Axis Table entry lies in its ranges, installed coefficients included, and every Nonlinearity Table
entry in −128 … 127; the samples on their way and the calibration records are what can reach them. -/
abbrev State.settingsLegal (s : State) : Prop :=
  ∀ a : AxisId, settingsInRange (s.axes[a]).settings = true ∧ (s.axes[a]).cal.gathered
    ∧ (∀ k : Fin 64, -128 ≤ (s.axes[a]).nonlinear[k] ∧ (s.axes[a]).nonlinear[k] ≤ 127)
    ∧ ∀ m ∈ s.bus.samples[a], isS16 m.c ∧ isS16 m.s

/-! ### Tables -/

/-- R27: no two valid entries of the Source Table clash. -/
abbrev State.sourcesUnique (s : State) : Prop :=
  ∀ i j : Fin 16, i ≠ j → ∀ x ∈ s.sfl.table[i], ∀ y ∈ s.sfl.table[j], entriesClash x y = false

/-- R24: the fields of a valid Source Table entry lie in the ranges of its kind. -/
abbrev SourceEntry.inRange (e : SourceEntry) : Prop :=
  1 ≤ e.station ∧ e.station ≤ 250 ∧ match e.kind with
    | .samplePair _ period => e.channel ≤ 3 ∧ 50 ≤ period ∧ period ≤ 2000
    | .marker _ _ => e.channel ≤ 7
    | .environment => e.channel = 0

/-- R24: every valid entry of the Source Table lies in the ranges of its kind. -/
abbrev State.sourcesInRange (s : State) : Prop :=
  ∀ i : Fin 16, ∀ x ∈ s.sfl.table[i], x.inRange

/-- R134, R151: while capture is ARMED, the configuration passes the tests of ARM. -/
abbrev State.armedValid (s : State) : Prop :=
  s.cap.state = .armed →
    windowsOrdered s.cap = true ∧ windowAxisUsable s.scu s.cap.header.axis = true
      ∧ ∀ i : SourceId, maskUsable s.scu (s.cap.map[i]).mask = true

/-- R143, R144: an entry that stands in the pending list waits for a raw field, and each of its waiting composites waits
for one of its two inputs. -/
abbrev Entry.unresolved (e : Entry) : Prop :=
  (∃ a : AxisId, e.raw[a] = some .waiting)
    ∧ ∀ c : Fin 4, e.composite[c] = some .waiting → ∃ k ∈ e.copies[c], ∃ ab ∈ compositeInputs k,
      e.raw[ab.1] ≠ none ∧ e.raw[ab.2] ≠ none ∧ (e.raw[ab.1] = some .waiting ∨ e.raw[ab.2] = some .waiting)

/-- Every entry of the pending list is unresolved: a complete one leaves the list in the event that completes it. -/
abbrev State.entriesUnresolved (s : State) : Prop :=
  ∀ e ∈ s.cap.entries, e.unresolved

/-- An index excess (R84). -/
abbrev isExcess (z : Int) : Prop := -1000000 ≤ z ∧ z ≤ 1000000

/-- R84, R85: the values of every environment group lie within ±1,000,000 ppb. -/
abbrev State.groupsLegal (s : State) : Prop :=
  ∀ g : GroupId, isExcess (s.scu.groups[g]).default_ ∧ isExcess (s.scu.groups[g]).applied
    ∧ isExcess (s.scu.groups[g]).lastValue

/-! ### The error log -/

/-- R190, R191, R197: the counts stay at 255 and the counters at 2^32 − 1; a kind is flagged exactly while its count is
not 0; FIRST holds a flagged kind. -/
abbrev Fmn.logLegal (f : Fmn) : Prop :=
  (∀ i : Fin 23, f.counts[i] ≤ 255 ∧ (f.flags[i] = true ↔ f.counts[i] ≠ 0))
    ∧ (∀ j : Fin 8, f.counters[j] ≤ 4294967295 ∧ f.selections[j] ≤ 27)
    ∧ ∀ x ∈ f.first, f.flags[x.kind.index] = true

/-! ### The unassigned part -/

/-- R11, R20, R22: an unassigned part keeps no time, is never down, and has no request and no response. -/
abbrev State.unassignedIdle (s : State) : Prop :=
  s.cpt.station = 0 →
    s.cpt.timer = 0 ∧ s.cpt.established = false ∧ s.cpt.down = false ∧ s.mga.intake = [] ∧ s.mga.executing = none
      ∧ s.mga.responses = []

/-! ### What is sent -/

/-- A queued record, or one on its way, has at most ten axis entries (R145). -/
abbrev Record.fits (r : Record) : Prop := r.fields.length ≤ 10

/-- R4, R5: the frames that wait and the frame being sent are good frames, and every answer and record fits a frame. -/
abbrev State.framesGood (s : State) : Prop :=
  (∀ f ∈ s.cpt.forward, goodFrame f.bytes = true)
    ∧ (∀ b ∈ s.cpt.transmitter, goodFrame b = true)
    ∧ (∀ r ∈ s.mga.responses, r.data.length ≤ 510)
    ∧ (∀ q ∈ s.rqu.queue, q.body.fits)
    ∧ ∀ r ∈ s.bus.records, r.fits

/-! ### What a statement about a request names -/

/-- MGA is executing the addressed request r, which is the request `op`. -/
abbrev Executing (s : State) (op : RequestOp) (r : Request) : Prop :=
  s.mga.executing = some r ∧ r.op = some op ∧ r.broadcast = false

/-- MGA is executing an addressed request r, which is `op` for axis a. -/
abbrev ExecutingOn (s : State) (op : RequestOp) (r : Request) (a : AxisId) : Prop :=
  Executing s op r ∧ r.axis = some a

/-- MGA is executing an addressed WRITE TABLE of table n. -/
abbrev Writing (s : State) (n : Nat) (r : Request) : Prop :=
  Executing s .writeTable r ∧ r.subject = n

/-- The response list with the answer to r at its newest end; MGA is free for the next request. -/
def answered (m : Mga) (r : Request) (status : Status) (data : List Byte) : Mga :=
  { m with executing := none, responses := m.responses ++ [⟨r.source, r.tag, r.code, status, data, false⟩] }

/-- The reports with one "management refusals" event of MGA behind them. -/
def refusalReported (b : Bus) : Bus :=
  { b with reports := b.reports ++ [⟨.mga, .managementRefusals, 0⟩] }

/-- The reports and the decay of the link-error bucket that every good frame brings (R8, R9). -/
def counted (s : State) : State :=
  { s with
    cpt := if s.cpt.decay + 1 < 1000 then { s.cpt with decay := s.cpt.decay + 1 }
      else { s.cpt with decay := 0, bucket := s.cpt.bucket - 1 }
    bus := { s.bus with reports := s.bus.reports ++ [⟨.cpt, .goodFramesIn, 0⟩] } }

/-- R13: the frame at the newest end of the forward queue, or, with 8 frames there, lost with FORWARD_OVERRUN. -/
def offered (b : List Byte) (copy : Option Nat) (s : State) : State :=
  if s.cpt.forward.length < 8 then { s with cpt := { s.cpt with forward := s.cpt.forward ++ [⟨b, copy⟩] } }
  else { s with bus := { s.bus with raises := s.bus.raises ++
    [⟨.cpt, .forwardOverrun, frameSource b, BitVec.ofNat 32 (frameKind b), 0⟩] } }

/-- The Source Table feeds raw axis a from pair j of this station's SAMPLE frames at this nominal period (R24). -/
abbrev feeds (s : State) (station j : Nat) (a : AxisId) (period : Nat) : Prop :=
  ∃ i : Fin 16, ∃ forward : Bool, s.sfl.table[i] = some ⟨station, j, forward, .samplePair a period⟩

/-- The marker events that event e of a MARKER payload becomes: one for each entry that names its station and channel,
which R27 leaves at most one (R33). -/
def eventsOf (s : State) (station : Nat) (p : List Byte) (e : Nat) : List MarkerMsg :=
  if field p (2 + 8 * e) 1 ≤ 1 ∧ field p (1 + 8 * e) 1 ≤ 7 then
    s.sfl.table.toList.filterMap fun x => match x with
      | some { station := st, channel := c, kind := .marker m r, .. } =>
          if st = station ∧ c = field p (1 + 8 * e) 1 then
            some ⟨m, if field p (2 + 8 * e) 1 = 0 then .rise else .fall, timeField p (3 + 8 * e), r⟩
          else none
      | _ => none
  else []

/-- The values of groups 0 … 3 that value k of an ENVIRONMENT payload becomes (R34). -/
def valuesOf (p : List Byte) (k : Nat) : List EnvMsg :=
  match finOf 4 (field p (1 + 5 * k) 1) with
  | some g => [⟨g, signedField p (2 + 5 * k) 4⟩]
  | none => []

/-! ### What a statement about the pending list names -/

/-- R143: the field that a waiting composite c resolves to once both inputs have resolved, before the limit of R100. -/
def Entry.compositeFound (e : Entry) (c : Fin 4) : Option Field :=
  match e.composite[c], e.copies[c] with
  | some .waiting, some k =>
      match compositeInputs k with
      | some (a, b) =>
          match resolvedField e.raw[a], resolvedField e.raw[b] with
          | some fa, some fb => some (compositeField k fa fb)
          | _, _ => none
      | none => none
  | _, _ => none

/-- R143, R100: the entry with every such composite resolved and limited. -/
def Entry.settled (e : Entry) : Entry :=
  { e with composite := Vector.ofFn fun c : Fin 4 => match e.compositeFound c with
      | some f => some (limitField f)
      | none => e.composite[c] }

/-- R100: what SCU raises as those composites resolve, in ascending order (log 43). -/
def Entry.saturations (e : Entry) : List RaiseMsg :=
  (List.finRange 4).flatMap fun c => match e.compositeFound c with
    | some (.value _ p _) =>
        if within48 p then [] else [⟨.scu, .positionSaturated, 6 + c.val, if 0 < p then 3#32 else 4#32, 0⟩]
    | _ => []

/-- The state with these raises behind the ones on their way. -/
def State.raised (s : State) (raises : List RaiseMsg) : State :=
  { s with bus := { s.bus with raises := s.bus.raises ++ raises } }

/-- R144: one event's work on the listed entries, in list order: an entry is worked on and its composites resolved; a
complete one leaves the list as completeEntry says, and the others close up. -/
def swept (work : State → Entry → State × Entry) (s : State) : State :=
  let done := s.cap.entries.foldl (fun (x : State × List Entry) e =>
      let w := work x.1 e
      let u := w.1.raised w.2.saturations
      if w.2.settled.complete then (completeEntry u w.2.settled, x.2) else (u, x.2 ++ [w.2.settled])) (s, [])
  { done.1 with cap := { done.1.cap with entries := done.2 } }

/-! ### The ranges of table entries -/

/-- R93: the fields a composite's kind uses lie in their ranges. -/
abbrev CompositeEntry.inRange (e : CompositeEntry) : Prop :=
  match e with
  | .unused => True
  | .weighted _ _ wa wb _ => -32768 ≤ wa ∧ wa ≤ 32768 ∧ -32768 ≤ wb ∧ wb ≤ 32768
  | .diffRatio _ _ sep => 1 ≤ sep ∧ sep ≤ 65535

/-- R149: the fields of a window entry, and of the header, lie in their ranges. -/
abbrev WindowEntry.inRange (w : WindowEntry) : Prop :=
  within48 w.limit = true ∧ w.zone ≤ 254 ∧ w.spacing < 4294967296

abbrev WindowHeader.inRange (h : WindowHeader) : Prop :=
  within48 h.base = true ∧ h.valid ≤ 32

/-- R167: the Delivery settings lie in their ranges. -/
abbrev Delivery.inRange (d : Delivery) : Prop :=
  d.reader ≤ 250 ∧ 1 ≤ d.watermark ∧ d.watermark ≤ 128 ∧ d.interval < 4294967296

end Sys2Proof.Machine
end

