-- ==== Sys2Proof/Certificates/Slice0/Obligations.lean ====
section
/-! DEFINITION. The statements for the provers. Each completion statement gives the whole next state, or names every
part of it that may differ: what it does not name is what it was. -/

open Sys2Proof Sys2Proof.Machine

/-! ### The machine and its queue -/

/-- One step takes the command at the front of the queue and runs it on the state with the queue's rest; on an empty
queue the block idles, which is the model's choice (log 1). -/
def Obligations.FrontCommandRunsOnTheRest : Prop :=
  (∀ (c : Instr) (rest : List Instr) (s : State),
      step { s with pending := c :: rest } = exec c { s with pending := rest })
    ∧ ∀ s : State, step { s with pending := [] } = .next { s with pending := [] }

/-- No command stops the part: the manual ends no operation of the part in a stop, and a command with nothing to take
goes on with nothing done, which is the model's choice (log 11). None touches the queue of waiting commands, which is
the model's own (log 1). -/
def Obligations.EveryCommandGoesOnAndKeepsTheQueue : Prop :=
  ∀ (c : Instr) (s : State), ∃ t, exec c s = .next t ∧ t.pending = s.pending

/-! ### What every step keeps -/

/-- The queues, lists and counters of CPT, MGA, RQU and CAP stay within their limits: forward queue, fairness count,
link-error bucket and its decay, intake, response list, record queue, drain, drop and sequence counters and the pending
list; while a request is executed the response list has room for its answer (R9, R13, R14, R15, R137, R160, R161, R162,
R168, R174, R175). The history rings stand in StepKeepsAxisContextsLegal, FMN's counts in StepKeepsErrorLogConsistent. -/
def Obligations.StepKeepsQueueLimits : Prop :=
  ∀ s t : State, s.bounded → step s = .next t → t.bounded

/-- Every axis context stays in its ranges; an axis in OFF reads as its OFF values, one in ACQUIRE has no history and no
armed zero, one in REFERENCED has had a zero or preset applied, and a calibration runs in a counting state only
(R57, R66, R71, R78, R126). With that, every decay count stays below its interval and every calibration's samples seen
and motion within their limits (R60, R115, R117, R119). -/
def Obligations.StepKeepsAxisContextsLegal : Prop :=
  (∀ s t : State, s.axesLegal → step s = .next t → t.axesLegal)
    ∧ ∀ s t : State, s.axesLegal → s.axesCounted → step s = .next t → t.axesCounted

/-- Every Axis Table entry stays in the ranges of R51, installed calibrations included (R54), every Nonlinearity Table
entry in −128 … 127, and every group's default, applied and last received value within ±1,000,000 ppb (R84, R85). -/
def Obligations.StepKeepsSettingsInRange : Prop :=
  (∀ s t : State, s.settingsLegal → step s = .next t → t.settingsLegal)
    ∧ ∀ s t : State, s.groupsLegal → step s = .next t → t.groupsLegal

/-- Every frame the part sends is a good frame: well formed (R4) and with the check of R5. -/
def Obligations.StepSendsGoodFramesOnly : Prop :=
  ∀ s t : State, s.framesGood → step s = .next t → t.framesGood

/-- The Source Table never holds two entries that clash under R27, and its entries stay in the ranges of their kinds
(R24). Two entries clash exactly when they are of one kind class and have one station and channel, are SAMPLE_PAIR
entries for one axis, REFERENCE entries for one axis, or MARKER entries of one marker source (R27). -/
def Obligations.StepKeepsSourcesUnique : Prop :=
  (∀ s t : State, s.sourcesUnique → step s = .next t → t.sourcesUnique)
    ∧ (∀ s t : State, s.sourcesInRange → step s = .next t → t.sourcesInRange)
    ∧ ∀ x y : SourceEntry, entriesClash x y = true ↔
      (∃ a b p q, x.kind = .samplePair a p ∧ y.kind = .samplePair b q
          ∧ ((x.station = y.station ∧ x.channel = y.channel) ∨ a = b))
        ∨ (∃ m n a b, x.kind = .marker m a ∧ y.kind = .marker n b
          ∧ ((x.station = y.station ∧ x.channel = y.channel) ∨ m = n ∨ ∃ r, a = some r ∧ b = some r))
        ∨ (x.kind = .environment ∧ y.kind = .environment ∧ x.station = y.station ∧ x.channel = y.channel)

/-- While capture is ARMED, the Capture Map, the window axis and the window limits pass the tests of ARM (R134, R151);
and no complete entry stands in the pending list (R143, R144). -/
def Obligations.StepKeepsCaptureConsistent : Prop :=
  (∀ s t : State, s.armedValid → step s = .next t → t.armedValid)
    ∧ ∀ s t : State, s.entriesUnresolved → step s = .next t → t.entriesUnresolved

/-- The error log and the counters stay within their limits; a kind is flagged exactly while its count is not 0, and
FIRST holds a flagged kind, so it is empty when no kind is flagged (R190, R191, R197). -/
def Obligations.StepKeepsErrorLogConsistent : Prop :=
  ∀ s t : State, s.fmn.logLegal → step s = .next t → t.fmn.logLegal

/-- An unassigned part keeps no time, is not down, and has no request and no response (R11, R20, R188). That its stopped
chain-down timer reads 0 is the model's choice (log 24). -/
def Obligations.StepKeepsUnassignedPartIdle : Prop :=
  ∀ s t : State, s.unassignedIdle → step s = .next t → t.unassignedIdle

/-- The state right after reset meets everything that every step keeps. The value 0 of its stopped chain-down timer and
its idle transmitter are the model's choices (log 24, log 15). -/
def Obligations.ResetMeetsWhatStepsKeep : Prop :=
  State.reset.bounded ∧ State.reset.axesLegal ∧ State.reset.settingsLegal ∧ State.reset.framesGood
    ∧ State.reset.sourcesUnique ∧ State.reset.armedValid ∧ State.reset.groupsLegal ∧ State.reset.fmn.logLegal
    ∧ State.reset.entriesUnresolved ∧ State.reset.unassignedIdle ∧ State.reset.axesCounted
    ∧ State.reset.sourcesInRange

/-! ### Encodings -/

/-- Every table entry in its ranges is read back, by a write, from the bytes that a read returns for it, and those bytes
have the write size (R180, R184). ENVGROUP is written with its three settings, which are the first 12 bytes of its read.
What a write accepts lies in its ranges and is what its bytes say: an entry of the kinds with unused fields has the
codes and values of the fields it uses (R24, R25, R93, R94), and every other accepted entry reads back as the very bytes
written, so bytes with an undefined code or a value out of range are accepted for no table (R51, R84, R129, R130, R149,
R167, R182, R183). -/
def Obligations.TableEntriesReadBackAsWritten : Prop :=
  ((∀ e : Option SourceEntry, (∀ x ∈ e, x.inRange) → sourceOf (sourceBytes e) = some e ∧ (sourceBytes e).length = 10)
    ∧ (∀ x : AxisSettings, settingsInRange x = true →
        axisSettingsOf (axisSettingsBytes x) = some x ∧ (axisSettingsBytes x).length = 43)
    ∧ (∀ e : CompositeEntry, e.inRange → compositeOf (compositeBytes e) = some e ∧ (compositeBytes e).length = 14)
    ∧ (∀ g : EnvGroup, isExcess g.default_ → g.slewLimit ≤ 1000000 → 1000000 ≤ g.staleLimit →
        g.staleLimit < 4294967296 →
        groupSettingsOf ((groupBytes g).take 12) = some ⟨g.default_, g.slewLimit, g.staleLimit⟩
          ∧ (groupBytes g).length = 27)
    ∧ (∀ w : WindowEntry, w.inRange → windowEntryOf (windowEntryBytes w) = some w ∧ (windowEntryBytes w).length = 14)
    ∧ (∀ h : WindowHeader, h.inRange → windowHeaderOf (windowHeaderBytes h) = some h ∧ (windowHeaderBytes h).length = 8)
    ∧ (∀ e : CapMapEntry, capMapOf (capMapBytes e) = some e ∧ (capMapBytes e).length = 3)
    ∧ (∀ c : CompareSlot, c.period < 4294967296 →
        compareSlotOf (compareSlotBytes c) = some c ∧ (compareSlotBytes c).length = 11)
    ∧ (∀ r : Route, routeOf [routeByte r] = some r)
    ∧ (∀ d : Delivery, d.inRange → deliveryOf (deliveryBytes d) = some d ∧ (deliveryBytes d).length = 8)
    ∧ (∀ timeout limit : Nat, 1000 ≤ timeout → timeout ≤ 1000000 → 50 ≤ limit → limit ≤ 65535 →
        timingOf (timingBytes timeout limit) = some (timeout, limit) ∧ (timingBytes timeout limit).length = 6)
    ∧ (∀ z : Int, -128 ≤ z → z ≤ 127 → signedField (leInt 1 z) 0 1 = z ∧ (leInt 1 z).length = 1)
    ∧ ∀ e : Nat, e ≤ 27 → selectionOf (leBytes 1 e) = some e ∧ (leBytes 1 e).length = 1)
  ∧ (∀ b : List Byte,
    (∀ e, sourceOf b = some e → field b 0 1 = if e.isSome then 1 else 0)
      ∧ (∀ x, sourceOf b = some (some x) → x.inRange ∧ field b 2 1 = x.station ∧ field b 3 1 = x.channel
        ∧ field b 4 1 = (if x.forward then 1 else 0)
        ∧ match x.kind with
          | .samplePair a period => field b 1 1 = 0 ∧ field b 5 1 = a.val ∧ field b 8 2 = period
          | .marker m none => field b 1 1 = 1 ∧ field b 5 1 = m.val ∧ field b 6 1 = 0
          | .marker m (some a) => field b 1 1 = 1 ∧ field b 5 1 = m.val ∧ field b 6 1 = 1 ∧ field b 7 1 = a.val
          | .environment => field b 1 1 = 2)
      ∧ ∀ e, compositeOf b = some e → e.inRange ∧ match e with
        | .unused => field b 0 1 = 0
        | .weighted x y wa wb back => field b 0 1 = 1 ∧ field b 1 1 = x.val ∧ field b 2 1 = y.val
            ∧ signedField b 3 4 = wa ∧ signedField b 7 4 = wb ∧ field b 13 1 = if back then 1 else 0
        | .diffRatio x y sep => field b 0 1 = 2 ∧ field b 1 1 = x.val ∧ field b 2 1 = y.val ∧ field b 11 2 = sep)
  ∧ ∀ b : List Byte,
    (∀ x, axisSettingsOf b = some x → settingsInRange x = true ∧ (b.length = 43 → axisSettingsBytes x = b))
      ∧ (∀ g, groupSettingsOf b = some g → isExcess g.default_ ∧ g.slewLimit ≤ 1000000 ∧ 1000000 ≤ g.staleLimit
        ∧ g.staleLimit < 4294967296
        ∧ (b.length = 12 → leInt 4 g.default_ ++ leBytes 4 g.slewLimit ++ leBytes 4 g.staleLimit = b))
      ∧ (∀ w, windowEntryOf b = some w → w.inRange ∧ (b.length = 14 → windowEntryBytes w = b))
      ∧ (∀ h, windowHeaderOf b = some h → h.inRange ∧ (b.length = 8 → windowHeaderBytes h = b))
      ∧ (∀ e, capMapOf b = some e → b.length = 3 → capMapBytes e = b)
      ∧ (∀ c, compareSlotOf b = some c → c.period < 4294967296 ∧ (b.length = 11 → compareSlotBytes c = b))
      ∧ (∀ r, routeOf b = some r → b.length = 1 → [routeByte r] = b)
      ∧ (∀ d, deliveryOf b = some d → d.inRange ∧ (b.length = 8 → deliveryBytes d = b))
      ∧ (∀ timeout limit, timingOf b = some (timeout, limit) →
        1000 ≤ timeout ∧ timeout ≤ 1000000 ∧ 50 ≤ limit ∧ limit ≤ 65535
          ∧ (b.length = 6 → timingBytes timeout limit = b))
      ∧ (∀ e, selectionOf b = some e → e ≤ 27 ∧ (b.length = 1 → leBytes 1 e = b))
      ∧ -128 ≤ signedField b 0 1 ∧ signedField b 0 1 ≤ 127

/-- Every frame the part builds from fields that fit is a good frame, and its fields and payload read back (R4 to R7). -/
def Obligations.BuiltFramesAreGoodAndReadBack : Prop :=
  ∀ (kind dest source slot tag : Nat) (time : Time) (payload : List Byte),
    kind < 256 → dest < 256 → source < 256 → slot < 256 → tag < 65536 → payload.length ≤ 512 →
    let b := buildFrame kind dest source slot tag time payload
    goodFrame b = true ∧ frameKind b = kind ∧ frameDest b = dest ∧ frameSource b = source ∧ frameSlot b = slot
      ∧ frameTag b = tag ∧ frameTime b = time ∧ framePayload b = payload

/-! ### Arithmetic -/

/-- Stage 1 forms u = C − oC and v by two roundings to nearest, each limited to ±131,071 (R40, R41). Stage 2 judges a
sample weak exactly when it is overrange, has u = v = 0, falls below W_lo², or falls below W_hi² with the weak flag set;
a weak sample sets the flag and a strong one of W_hi² or more clears it (R42 to R44). The phase of stage 3 depends on the
direction of the pair only, not on its length; a quarter turn adds 1024; it lies in 0 … 4095; and along the axes and the
diagonals it takes the exact values of R47's table. -/
def Obligations.PhaseFollowsTheDirection : Prop :=
  (∀ u v n : Int, ¬(u = 0 ∧ v = 0) → 0 < n →
    phase (n * u) (n * v) = phase u v ∧ phase (-v) u = (phase u v + 1024) % 4096 ∧ phase u v < 4096)
  ∧ (∀ n : Int, 0 < n →
    phase n 0 = 0 ∧ phase n n = 512 ∧ phase 0 n = 1024 ∧ phase (-n) n = 1536 ∧ phase (-n) 0 = 2048
      ∧ phase (-n) (-n) = 2560 ∧ phase 0 (-n) = 3072 ∧ phase n (-n) = 3584)
  ∧ (∀ (st : AxisSettings) (c s : Int), ∃ w v : Int,
    let n := (s - st.oS) * st.gain - (c - st.oC) * st.ks
    (2 * w - 1) * 16384 ≤ 2 * n ∧ 2 * n < (2 * w + 1) * 16384
      ∧ (2 * v - 1) * 16384 ≤ 2 * (w * st.kc) ∧ 2 * (w * st.kc) < (2 * v + 1) * 16384
      ∧ stage1 st c s = (max (-131071) (min 131071 (c - st.oC)), max (-131071) (min 131071 v)))
  ∧ ∀ (st : AxisSettings) (flag clipped : Bool) (u v : Int),
    let r : Int := u * u + v * v
    let weak := judgedWeak st flag clipped (u, v)
    (weak = true ↔ clipped = true ∨ (u = 0 ∧ v = 0) ∨ r < st.wLo * st.wLo ∨ (flag = true ∧ r < st.wHi * st.wHi))
      ∧ (amplitude2 (u, v) : Int) = r
      ∧ weakAfter st flag weak (u, v) = (weak || (flag && decide (r < st.wHi * st.wHi)))

/-- The correction is formed from two neighbouring entries, lies between them and within −128 … 127, equals
the first at m = 0; the corrected phase is p less the correction, in one fringe; a table of zeros changes no phase. -/
def Obligations.CorrectionLiesBetweenTableEntries : Prop :=
  ∀ (E : Vector Int 64) (p : Nat), (∀ k : Fin 64, -128 ≤ E[k] ∧ E[k] ≤ 127) → p < 4096 →
    ∃ k k1 : Fin 64, k.val = p / 64 ∧ k1.val = (p / 64 + 1) % 64
      ∧ phaseResidual E p = E[k] + ((E[k1] - E[k]) * (p % 64 : Nat) + 32) / 64
      ∧ min E[k] E[k1] ≤ phaseResidual E p ∧ phaseResidual E p ≤ max E[k] E[k1]
      ∧ -128 ≤ phaseResidual E p ∧ phaseResidual E p ≤ 127
      ∧ (p % 64 = 0 → phaseResidual E p = E[k])
      ∧ (correctedPhase E p : Int) = ((p : Int) - phaseResidual E p) % 4096 ∧ correctedPhase E p < 4096
      ∧ ((∀ j : Fin 64, E[j] = 0) → correctedPhase E p = p)

/-- The effective scale factor is F_vac · 10^9 / (10^9 + x) rounded to nearest, F_vac itself for x = 0, and lies in
1 … 4,299,266,562; the dead-path term lies within ±131,070,000 pm and is 0 with no dead path or at x_ref (R82, R89). The
length of a count is P · F_eff / 2^24 rounded to nearest, halves upward (R83). A position is the signed length at the
group's applied value, with the dead-path term and O, limited to ±(2^47 − 1); a resolution whose sum lies outside raises
POSITION_SATURATED with detail 3 or 4 (R90). -/
def Obligations.ScaleFactorAndDeadPathInRange : Prop :=
  (∀ (fVac deadPath : Nat) (xRef x : Int), 1 ≤ fVac → fVac ≤ 4294967295 → deadPath ≤ 65535 → isExcess xRef → isExcess x →
    2 * (effectiveFactor fVac x * (1000000000 + x) - fVac * 1000000000) ≤ 1000000000 + x
      ∧ -(1000000000 + x) ≤ 2 * (effectiveFactor fVac x * (1000000000 + x) - fVac * 1000000000)
      ∧ 1 ≤ effectiveFactor fVac x ∧ effectiveFactor fVac x ≤ 4299266562
      ∧ effectiveFactor fVac 0 = fVac
      ∧ -131070000 ≤ deadPathTerm deadPath xRef x ∧ deadPathTerm deadPath xRef x ≤ 131070000
      ∧ deadPathTerm 0 xRef x = 0 ∧ deadPathTerm deadPath x x = 0)
  ∧ (∀ count factor : Int,
    (2 * lengthOf count factor - 1) * 16777216 ≤ 2 * (count * factor)
      ∧ 2 * (count * factor) < (2 * lengthOf count factor + 1) * 16777216)
  ∧ ∀ (s : State) (a : AxisId) (count : Int),
    let x := s.axes[a]
    let applied : Int := match x.settings.group with
      | some g => (s.scu.groups[g]).applied
      | none => 0
    let length := lengthOf count (effectiveFactor x.settings.fVac applied)
    let sum := (if x.settings.negative then -length else length)
      + deadPathTerm x.settings.deadPath x.ctx.xRef applied + x.ctx.offset
    positionOf s a count = max (-140737488355327) (min 140737488355327 sum)
      ∧ (-140737488355327 ≤ sum → sum ≤ 140737488355327 → raiseSaturated s a.val sum = s)
      ∧ (140737488355327 < sum → raiseSaturated s a.val sum = s.raised [⟨.scu, .positionSaturated, a.val, 3#32, 0⟩])
      ∧ (sum < -140737488355327 → raiseSaturated s a.val sum = s.raised [⟨.scu, .positionSaturated, a.val, 4#32, 0⟩])

/-- The count interpolated at a time within a bracket lies between the counts of its entries, is the rounding to nearest
of the straight line between them, and equals an entry's count at the entry's time; where the two entries have one time
it still lies between their counts (elsewhere than at that time a free value, log 40) (R140). The bracket's entries are
the newest entry that is not later than the time and the oldest that the time is not later than (R72; at exactly 2^47
ticks the model's reading, log 31). A waiting raw field with a bracket resolves with the status and the position of the
bracket, the group's stale mark and the zero's outcome (R91, R139, R140); without one it resolves LATE with CAPTURE_LATE
before the ring, OFF for an axis that does not count, and otherwise waits (R139; a time that meets two cases, log 35; an
entry unmarked by ZERO CANCEL raises the same, log 42). A composite with two positions has the rounded weighted sum or
the rounded ratio, the worse status and either stale mark; with one position a WEIGHTED fallback uses it, and every
other has the reason of input a, or else of input b (R96 to R99). Every waiting composite whose inputs have resolved is
resolved and limited, with POSITION_SATURATED (R100, R143; that several composites of one entry raise it in ascending
order is the model's choice, log 43). -/
def Obligations.InterpolatedCountLiesInItsBracket : Prop :=
  (∀ (h0 h1 : HistEntry) (t : Time), (t - h0.time).toNat ≤ (h1.time - h0.time).toNat →
    min h0.count h1.count ≤ interpolate h0 h1 t ∧ interpolate h0 h1 t ≤ max h0.count h1.count
      ∧ interpolate h0 h1 h0.time = h0.count ∧ (h1.time ≠ h0.time → interpolate h0 h1 h1.time = h1.count
        ∧ let d := (h1.time - h0.time).toNat
          let n := (h1.count - h0.count) * (t - h0.time).toNat
          (2 * (interpolate h0 h1 t - h0.count) - 1) * d ≤ 2 * n
            ∧ 2 * n < (2 * (interpolate h0 h1 t - h0.count) + 1) * d))
  ∧ (∀ (h0 h1 : HistEntry) (t : Time), h1.time = h0.time →
    min h0.count h1.count ≤ interpolate h0 h1 t ∧ interpolate h0 h1 t ≤ max h0.count h1.count)
  ∧ (∀ (ring : List HistEntry) (t : Time) (h : HistEntry),
    (bracketBefore ring t = some h ↔ ∃ older newer, ring = older ++ h :: newer ∧ later h.time t = false
      ∧ ∀ x ∈ newer, later x.time t = true)
    ∧ (bracketAfter ring t = some h ↔ ∃ older newer, ring = older ++ h :: newer ∧ later t h.time = false
      ∧ ∀ x ∈ older, later t x.time = true))
  ∧ (∀ (s : State) (a : AxisId) (e : Entry),
    let c := (s.axes[a]).ctx
    let outcome (r : ZeroResult) (s : State) : State :=
      if e.zeroMark = some a then
        { s with bus := { s.bus with zeroMsgs := s.bus.zeroMsgs.set a.val (s.bus.zeroMsgs[a] ++ [.outcome e.id r]) a.isLt } }
      else s
    let resolved (x : Field) : Entry := { e with raw := e.raw.set a.val (some x) a.isLt }
    (e.raw[a] ≠ some .waiting → testRaw a s e = (s, e))
    ∧ (e.raw[a] = some .waiting →
      (∀ h0 h1, bracketBefore c.ring e.time = some h0 → bracketAfter c.ring e.time = some h1 →
        let count := interpolate h0 h1 e.time
        let status : FieldStatus := if h1.slip then .unsure else if h0.referenced && h1.referenced then .ok else .relative
        let stale : Bool := match (s.axes[a]).settings.group with
          | some g => (s.scu.groups[g]).stale
          | none => false
        let sum := rawPosition s.axes[a] count (appliedOf s (s.axes[a]).settings.group)
        testRaw a s e = (outcome (.bracket count h1.slip e.time) (raiseSaturated s a.val sum),
          resolved (.value status (positionOf s a count) stale)))
      ∧ (bracketBefore c.ring e.time = none ∨ bracketAfter c.ring e.time = none →
        ((∃ h ∈ c.ring.head?, later h.time e.time = true) →
          testRaw a s e = (outcome .late (s.raised [⟨.cap, .captureLate, a.val, BitVec.ofNat 32 e.source.val, 0⟩]),
            resolved (.absent .late)))
        ∧ ((∀ h ∈ c.ring.head?, later h.time e.time = false) → c.counting = false →
          testRaw a s e = (outcome .off s, resolved (.absent .off)))
        ∧ ((∀ h ∈ c.ring.head?, later h.time e.time = false) → c.counting = true → testRaw a s e = (s, e)))))
  ∧ (∀ (x y : AxisId) (wa wb pa pb : Int) (sep : Nat) (back ma mb : Bool) (sa sb ra rb : FieldStatus), 0 < sep →
    let worst : FieldStatus := if sa = .unsure ∨ sb = .unsure then .unsure
      else if sa = .relative ∨ sb = .relative then .relative else .ok
    let spare (z : FieldStatus) : FieldStatus := if z = .unsure then .unsure else .fallback
    (∃ p, compositeField (.weighted x y wa wb back) (.value sa pa ma) (.value sb pb mb) = .value worst p (ma || mb)
      ∧ (2 * p - 1) * 16384 ≤ 2 * (wa * pa + wb * pb) ∧ 2 * (wa * pa + wb * pb) < (2 * p + 1) * 16384)
    ∧ (∃ p, compositeField (.diffRatio x y sep) (.value sa pa ma) (.value sb pb mb) = .value worst p (ma || mb)
      ∧ (2 * p - 1) * sep ≤ 2 * (pa - pb) ∧ 2 * (pa - pb) < (2 * p + 1) * sep)
    ∧ (∃ p, compositeField (.weighted x y wa wb true) (.value sa pa ma) (.absent rb) = .value (spare sa) p ma
      ∧ (2 * p - 1) * 16384 ≤ 2 * ((wa + wb) * pa) ∧ 2 * ((wa + wb) * pa) < (2 * p + 1) * 16384)
    ∧ (∃ p, compositeField (.weighted x y wa wb true) (.absent ra) (.value sb pb mb) = .value (spare sb) p mb
      ∧ (2 * p - 1) * 16384 ≤ 2 * ((wa + wb) * pb) ∧ 2 * ((wa + wb) * pb) < (2 * p + 1) * 16384)
    ∧ compositeField (.weighted x y wa wb false) (.value sa pa ma) (.absent rb) = .absent rb
    ∧ compositeField (.weighted x y wa wb false) (.absent ra) (.value sb pb mb) = .absent ra
    ∧ compositeField (.diffRatio x y sep) (.value sa pa ma) (.absent rb) = .absent rb
    ∧ compositeField (.diffRatio x y sep) (.absent ra) (.value sb pb mb) = .absent ra
    ∧ compositeField (.weighted x y wa wb back) (.absent ra) (.absent rb) = .absent ra
    ∧ compositeField (.diffRatio x y sep) (.absent ra) (.absent rb) = .absent ra)
  ∧ ∀ (s : State) (e : Entry), settleComposites (s, e) = (s.raised e.saturations, e.settled)

/-- Kc' is the integer nearest to 2^28 / sqrt(2^28 − Ks'²) and lies in the range of R51 for every Ks' that passes
test 4 of R122 (R121). -/
def Obligations.CalibratedSecantIsNearest : Prop :=
  ∀ ks : Int, -4096 ≤ ks → ks ≤ 4096 →
    (2 * secantOf ks - 1) ^ 2 * (268435456 - ks ^ 2) ≤ 288230376151711744
      ∧ 288230376151711744 < (2 * secantOf ks + 1) ^ 2 * (268435456 - ks ^ 2)
      ∧ 16384 ≤ secantOf ks ∧ secantOf ks ≤ 16928

/-! ### CPT: frames, link time, the transmitter -/

/-- A bad frame changes the link-error bucket and makes FRAME_CHECK, CHAIN_DEGRADED at the step from 31 to 32 and one
"bad frames" report (R8, R9). LINK_ERROR_DECAY at a decay count of 999 returns it to 0 and lowers the bucket by 1;
that it stands alone, without its good frame, is the model's choice (log 8). -/
def Obligations.BadFramesFillTheBucketThatGoodFramesDrain : Prop :=
  (∀ (b : List Byte) (s : State), goodFrame b = false →
    exec (.badFrame b) s = .next { s with
      cpt := { s.cpt with bucket := min 255 (s.cpt.bucket + 1) }
      bus := { s.bus with
        raises := s.bus.raises ++ ⟨.cpt, .frameCheck, 0, if frameWellFormed b then 0 else 1, 0⟩
          :: (if s.cpt.bucket = 31 then [⟨.cpt, .chainDegraded, 0, 32, 0⟩] else [])
        reports := s.bus.reports ++ [⟨.cpt, .badFrames, 0⟩] } })
    ∧ ∀ s : State, s.cpt.decay = 999 →
      exec .linkErrorDecay s = .next { s with cpt := { s.cpt with decay := 0, bucket := s.cpt.bucket - 1 } }

/-- A good CYCLE frame of an assigned part is taken for timekeeping when no time is established or its time is later,
and is handed on as an advance; otherwise it raises LINK_TIME. Either way it reports one "cycle frames" event and is
offered to the forward queue, with the part's number in a free attention slot while attention is pending (R13, R17, R18,
R20, R21). -/
def Obligations.CycleFramesKeepTimeAndAreForwarded : Prop :=
  ∀ (b : List Byte) (s : State), goodFrameOfKind 1 b = true → s.cpt.station ≠ 0 →
    let out := if attentionPending s.fmn = true ∧ frameSlot b = 0 then alterByte b 3 s.cpt.station else b
    let s1 := counted s
    (s.cpt.established = false ∨ later (frameTime b) s.cpt.observed = true →
      exec (.cycle b) s = .next (offered out none { s1 with
        cpt := { s1.cpt with observed := frameTime b, established := true, timer := 0, down := false }
        bus := { s1.bus with
          reports := s1.bus.reports ++ [⟨.cpt, .cycleFrames, 0⟩]
          linkEvents := s.bus.linkEvents.map (· ++ [.advance (frameTime b)])
          capAdvances := s.bus.capAdvances ++ [frameTime b]
          scuAdvances := s.bus.scuAdvances ++ [frameTime b]
          rquAdvances := s.bus.rquAdvances + 1 } }))
    ∧ (s.cpt.established = true → later (frameTime b) s.cpt.observed = false →
      exec (.cycle b) s = .next (offered out none { s1 with
        bus := { s1.bus with
          reports := s1.bus.reports ++ [⟨.cpt, .cycleFrames, 0⟩]
          raises := s.bus.raises ++
            [⟨.cpt, .linkTime, frameSource b, BitVec.ofNat 32 (frameTime b).toNat, 0⟩] } }))

/-- An unassigned part takes the number and the controlling station of a valid ASSIGN frame and offers it to the
forward queue with the next number one higher; an assigned part, and any part given an invalid one, offers the frame
unchanged (R12, R13). -/
def Obligations.AssignFramesNumberUnassignedParts : Prop :=
  ∀ (b : List Byte) (s : State), goodFrameOfKind 2 b = true →
    let n := field (framePayload b) 0 1
    let s1 := counted s
    (s.cpt.station = 0 → 2 ≤ (framePayload b).length → 1 ≤ n → n ≤ 250 →
      exec (.assign b) s = .next (offered (alterByte b 14 (n + 1)) none { s1 with
        cpt := { s1.cpt with
          station := n, controller := field (framePayload b) 1 1, timer := 0, established := false } }))
    ∧ (s.cpt.station ≠ 0 ∨ (framePayload b).length < 2 ∨ n = 0 ∨ 250 < n →
      exec (.assign b) s = .next (offered b none s1))

/-- A SAMPLE frame delivers to each axis the samples of the pairs the Source Table feeds it from at its nominal
period, pair by pair and in time order, raises PERIOD_MISMATCH with the axis and both periods for each matched pair of
another period, in pair order, and is offered to the forward queue unless an entry that matches a pair has its forward
flag off (R28, R30, R31, R32, R35). Nothing else changes but what every good frame brings. -/
def Obligations.SampleFramesDeliverMatchedPairs : Prop :=
  ∀ (b : List Byte) (s : State), goodFrameOfKind 3 b = true → s.cpt.station ≠ 0 → s.sourcesUnique →
    let p := framePayload b
    let consumed : Prop := sampleUsable p = true ∧ ∃ j, j < pairCount p ∧ ∃ (i : Fin 16) (a : AxisId) (n : Nat),
      s.sfl.table[i] = some ⟨frameSource b, j, false, .samplePair a n⟩
    let mismatches (j : Nat) : List RaiseMsg := (List.finRange 16).flatMap fun i => match s.sfl.table[i] with
      | some { station := st, channel := ch, kind := .samplePair a n, .. } =>
          if st = frameSource b ∧ ch = j ∧ n ≠ headPeriod p then
            [⟨.sfl, .periodMismatch, a.val, BitVec.ofNat 32 (headPeriod p * 65536 + n), 0⟩]
          else []
      | _ => []
    ∃ t, (consumed → exec (.sample b) s = .next t) ∧ (¬consumed → exec (.sample b) s = .next (offered b none t))
      ∧ (∀ a : AxisId, t.bus.samples[a] = s.bus.samples[a] ++
          if sampleUsable p then (List.range (pairCount p)).flatMap fun j =>
            if feeds s (frameSource b) j a (headPeriod p) then samplesOf p j else []
          else [])
      ∧ t.bus.raises = s.bus.raises ++
          (if sampleUsable p then (List.range (pairCount p)).flatMap mismatches else [])
      ∧ t = { counted s with bus := { (counted s).bus with samples := t.bus.samples, raises := t.bus.raises } }

/-- A usable MARKER frame hands CAP its matched events, in frame order, with source, polarity, time and reference axis
from the Source Table, and is offered to the forward queue unless an entry that matches an event has its forward flag
off (R33, R35). A usable ENVIRONMENT frame from a station with an ENVIRONMENT entry hands SCU each value of groups 0 … 3
and reports one event for each; it is consumed exactly when that entry's forward flag is off and some value names a
group of 0 … 3, and otherwise offered to the forward queue; any other hands nothing and is offered to the forward queue
(R34, R35). Nothing else changes but what every good frame brings. -/
def Obligations.MarkerAndEnvironmentFramesHandWhatTheyCarry : Prop :=
  (∀ (b : List Byte) (s : State), goodFrameOfKind 4 b = true → s.cpt.station ≠ 0 → s.sourcesUnique →
    let p := framePayload b
    let consumed : Prop := markerUsable p = true ∧ ∃ e, e < field p 0 1 ∧ field p (2 + 8 * e) 1 ≤ 1
      ∧ field p (1 + 8 * e) 1 ≤ 7 ∧ ∃ (i : Fin 16) (m : Fin 8) (r : Option AxisId),
        s.sfl.table[i] = some ⟨frameSource b, field p (1 + 8 * e) 1, false, .marker m r⟩
    let handed :=
      if markerUsable p then (List.range (field p 0 1)).flatMap (eventsOf s (frameSource b) p) else []
    let t : State := { counted s with bus := { (counted s).bus with markers := s.bus.markers ++ handed } }
    (consumed → exec (.marker b) s = .next t) ∧ (¬consumed → exec (.marker b) s = .next (offered b none t)))
  ∧ ∀ (b : List Byte) (s : State), goodFrameOfKind 5 b = true → s.cpt.station ≠ 0 → s.sourcesUnique →
    s.sourcesInRange →
    let p := framePayload b
    let known : Prop := ∃ (i : Fin 16) (c : Nat) (f : Bool), s.sfl.table[i] = some ⟨frameSource b, c, f, .environment⟩
    let consumed : Prop := environmentUsable p = true
      ∧ (∃ (i : Fin 16) (c : Nat), s.sfl.table[i] = some ⟨frameSource b, c, false, .environment⟩)
      ∧ ∃ k, k < field p 0 1 ∧ field p (1 + 5 * k) 1 < 4
    let values := (List.range (field p 0 1)).flatMap (valuesOf p)
    let t : State := { counted s with bus := { (counted s).bus with
      envValues := s.bus.envValues ++ values
      reports := (counted s).bus.reports ++ values.map fun _ => ⟨.sfl, .environmentValues, 0⟩ } }
    (consumed → exec (.environment b) s = .next t)
    ∧ (environmentUsable p = true → known → ¬consumed → exec (.environment b) s = .next (offered b none t))
    ∧ (environmentUsable p = false ∨ ¬known → exec (.environment b) s = .next (offered b none (counted s)))

/-- A MANAGE frame for this station joins the newest end of the intake, or finds it full and raises MANAGE_OVERRUN
with its source station and request code; it is not forwarded. A broadcast one does the same and is also offered to the
forward queue, its copy numbered. A good frame the part does not act on is offered to the forward queue (R10, R11, R13,
R174). -/
def Obligations.ManageFramesJoinTheIntakeOthersAreForwarded : Prop :=
  (∀ (b : List Byte) (s : State), goodFrameOfKind 6 b = true → s.cpt.station ≠ 0 →
    let request (broadcast : Bool) : Request := ⟨frameSource b, broadcast, frameTag b, framePayload b, s.cpt.nextCopy⟩
    let joined (broadcast : Bool) : State :=
      if s.mga.intake.length < 4 then
        { counted s with mga := { s.mga with intake := s.mga.intake ++ [request broadcast] } }
      else { counted s with bus := { (counted s).bus with raises := s.bus.raises ++
        [⟨.mga, .manageOverrun, frameSource b, BitVec.ofNat 32 (field (framePayload b) 0 1), 0⟩] } }
    (frameDest b = s.cpt.station → frameDest b ≠ 255 → exec (.manage b) s = .next (joined false))
    ∧ (frameDest b = 255 → exec (.manage b) s = .next (offered b (some s.cpt.nextCopy) { joined true with
        cpt := { (counted s).cpt with nextCopy := s.cpt.nextCopy + 1 } })))
  ∧ ∀ (b : List Byte) (s : State), goodFrame b = true →
    (if s.cpt.station = 0 then frameKind b ≠ 2
      else frameKind b = 0 ∨ frameKind b = 2 ∨ 6 < frameKind b
        ∨ (frameKind b = 6 ∧ frameDest b ≠ 255 ∧ frameDest b ≠ s.cpt.station)) →
    exec (.forwardedFrame b) s = .next (offered b none (counted s))

/-- Each microsecond reports ALWAYS and, in an assigned part, adds 1 to the chain-down timer; the microsecond that
reaches the limit of an up chain takes it down, raises CHAIN_DOWN with the limit and hands the loss to every engine
(R20, R197). That CHAIN_DOWN alone is that microsecond's loss without its report is the model's choice (log 8). -/
def Obligations.ChainGoesDownAtTheLimit : Prop :=
  (∀ s : State, s.cpt.station = 0 →
    exec .always s = .next { s with bus := { s.bus with reports := s.bus.reports ++ [⟨.cpt, .always, 0⟩] } })
  ∧ ∀ s : State, s.cpt.station ≠ 0 →
    let tick : State := { s with
      cpt := { s.cpt with timer := s.cpt.timer + 1 }
      bus := { s.bus with reports := s.bus.reports ++ [⟨.cpt, .always, 0⟩] } }
    let lost (s : State) : State := { s with
      cpt := { s.cpt with down := true }
      bus := { s.bus with
        raises := s.bus.raises ++ [⟨.cpt, .chainDown, 0, BitVec.ofNat 32 s.cpt.chainLimit, 0⟩]
        linkEvents := s.bus.linkEvents.map (· ++ [.loss]) } }
    (s.cpt.down = true ∨ s.cpt.timer + 1 < s.cpt.chainLimit → exec .always s = .next tick)
    ∧ (s.cpt.down = false → s.cpt.chainLimit ≤ s.cpt.timer + 1 →
        exec .always s = .next (lost tick)
          ∧ exec .chainDown s = .next (lost { s with cpt := { s.cpt with timer := s.cpt.timer + 1 } }))

/-- With the transmitter free and no reset begun that has not taken effect (R16, log 17), the arbiter starts the oldest
forwarded frame, or the oldest response, by the fairness count: a forwarded frame while the count is below 4, the insert
frame at 4 or with no forwarded frame, and the count returns to 0 with the insert frame or with no insert frame waiting
(R14 to R16). While a frame is being sent, or such a reset has begun, no frame starts, and none starts with no frame
waiting. A response or an offer of RQU is an insert frame waiting; a reset has begun when a FULL RESET's response or
forwarded copy no longer waits, or a RESTART has been taken by some blocks and not by all (log 17). A frame sent leaves
the transmitter free. A response's frame is a good frame of kind 7 for the request's station, from this one, with the
request's tag and the observed link time, and holds the request code, the status code and the data (R6, R7, R176). -/
def Obligations.ArbiterChoosesByFairness : Prop :=
  (∀ s : State, s.cpt.transmitter = none → transmitHeld s = false →
    (∀ f rest, s.cpt.forward = f :: rest → (insertWaiting s = true → s.cpt.fairness < 4) →
      exec .transmitStart s = .next { s with
        cpt := { s.cpt with
          transmitter := some f.bytes, forward := rest
          fairness := if insertWaiting s then s.cpt.fairness + 1 else 0 }
        bus := { s.bus with reports := s.bus.reports ++ [⟨.cpt, .framesForwarded, 0⟩] } })
    ∧ ∀ r rest, s.mga.responses = r :: rest → (s.cpt.forward = [] ∨ s.cpt.fairness = 4) →
      exec .transmitStart s = .next { s with
        cpt := { s.cpt with transmitter := some (responseFrame s r), fairness := 0 }
        mga := { s.mga with responses := rest }
        bus := { s.bus with reports := s.bus.reports ++ [⟨.cpt, .framesInserted, 0⟩] } })
  ∧ (∀ s : State, s.cpt.transmitter.isSome = true ∨ transmitHeld s = true → exec .transmitStart s = .next s)
  ∧ (∀ s : State, s.cpt.forward = [] → s.mga.responses = [] → offerHolds s = false → exec .transmitStart s = .next s)
  ∧ (∀ s : State, (insertWaiting s = true ↔ s.mga.responses ≠ [] ∨ offerHolds s = true)
    ∧ (transmitHeld s = true ↔
      (s.mga.resetWait = some .response ∧ ∀ r ∈ s.mga.responses, r.endsInReset = false)
        ∨ (∃ n, s.mga.resetWait = some (.copy n) ∧ ∀ f ∈ s.cpt.forward, f.copyOf ≠ some n)
        ∨ (s.mga.restartLeft ≠ [] ∧ s.mga.restartLeft.length < 12)))
  ∧ (∀ s : State, exec .frameSent s = .next { s with cpt := { s.cpt with transmitter := none } })
  ∧ ∀ (s : State) (r : Response), s.cpt.station < 256 → r.dest < 256 → r.tag < 65536 → r.data.length ≤ 510 →
    let b := responseFrame s r
    let status : Nat := match r.status with
      | .done => 0 | .started => 1 | .busy => 2 | .full => 3 | .refusedState => 4 | .refusedRange => 5
      | .refusedConflict => 6 | .refusedOrder => 7 | .denied => 8 | .unknown => 9
    goodFrame b = true ∧ frameKind b = 7 ∧ frameDest b = r.dest ∧ frameSource b = s.cpt.station ∧ frameSlot b = 0
      ∧ frameTag b = r.tag ∧ frameTime b = s.cpt.observed
      ∧ framePayload b = BitVec.ofNat 8 r.code :: BitVec.ofNat 8 status :: r.data

/-- With no response waiting, an offer of RQU and its turn, the transmitter starts a RECORD frame of the oldest records:
at most 4, and in PULL mode at most the drain count. They leave the queue, the drop counter returns to 0, the drain goes
on, the flush age is examined anew (R166; with the chain down or no link time the model's reading, log 36), and CPT
reports one insert and each record (R16, R163, R168). RQU offers a record exactly when the reader station is not 0, a
record is queued, and a drain runs or, in PUSH, the level has reached the watermark or the age is due (R164, R165,
R169). The frame is a good frame of kind 8 for the reader station, tagged with the first record's number, and holds the
record count and the records: the first with the drop counter in its drops field and the others with 0 (R6, R7, R163); a
record of e axis entries takes 16 + 8·e bytes, laid out as R7 gives. -/
def Obligations.RecordFramesTakeTheOldestRecords : Prop :=
  (∀ s : State, s.cpt.transmitter = none → transmitHeld s = false → s.mga.responses = [] → offerHolds s = true →
    (s.cpt.forward = [] ∨ s.cpt.fairness = 4) →
    let n := min (min 4 s.rqu.queue.length) (if s.rqu.delivery.pull then s.rqu.drain else 4)
    1 ≤ n ∧ ∃ t, exec .transmitStart s = .next t
      ∧ t = { s with
          cpt := { s.cpt with transmitter := some (recordFrame s), fairness := 0 }
          rqu := { s.rqu with
            queue := s.rqu.queue.drop n, drops := 0, drain := s.rqu.drain - n, ageDue := t.rqu.ageDue }
          bus := { s.bus with reports := s.bus.reports ++
            [⟨.cpt, .framesInserted, 0⟩, ⟨.cpt, .recordsTransmitted, n - 1⟩] } }
      ∧ t.rqu.ageDue = ageDueNow t)
  ∧ (∀ s : State, offerHolds s = true ↔ s.rqu.delivery.reader ≠ 0 ∧ s.rqu.queue ≠ []
    ∧ (0 < s.rqu.drain ∨ (s.rqu.delivery.pull = false
      ∧ (s.rqu.delivery.watermark ≤ s.rqu.queue.length ∨ s.rqu.ageDue = true))))
  ∧ (∀ (s : State) (q : QueuedRecord) (rest : List QueuedRecord), s.framesGood → s.cpt.station < 256 →
    s.rqu.delivery.reader < 256 → q.sequence < 65536 →
    s.rqu.queue.take (min (min 4 s.rqu.queue.length) (if s.rqu.delivery.pull then s.rqu.drain else 4)) = q :: rest →
    let b := recordFrame s
    goodFrame b = true ∧ frameKind b = 8 ∧ frameDest b = s.rqu.delivery.reader ∧ frameSource b = s.cpt.station
      ∧ frameSlot b = 0 ∧ frameTag b = q.sequence ∧ frameTime b = s.cpt.observed
      ∧ framePayload b = BitVec.ofNat 8 (1 + rest.length) :: (recordBytes s.rqu.drops q ++ rest.flatMap (recordBytes 0)))
  ∧ ∀ (drops : Nat) (q : QueuedRecord), drops < 65536 → q.sequence < 65536 → q.body.zone < 256 → q.body.fits →
    let d := recordBytes drops q
    let kind : Nat := match q.body.kind with
      | .edge => 0 | .reference => 1 | .timed => 2 | .manual => 3
    let polarity : Nat := match q.body.polarity with
      | .rise => 0 | .fall => 1 | .none => 2
    d.length = 16 + 8 * q.body.fields.length ∧ field d 0 2 = q.sequence ∧ field d 2 2 = drops ∧ field d 4 1 = kind
      ∧ field d 5 1 = q.body.source.val ∧ field d 6 1 = polarity ∧ field d 7 1 = q.body.zone
      ∧ timeField d 8 = q.body.time
      ∧ field d 14 1 = (if q.body.taint then 1 else 0) + (if q.body.ungated then 2 else 0)
          + (if q.body.envStale then 4 else 0)
      ∧ field d 15 1 = q.body.fields.length
      ∧ ∀ (i : Nat) (e : AxisEntry), q.body.fields[i]? = some e → e.axis < 256 → within48 e.value = true →
        let status : Nat := match e.status with
          | .ok => 0 | .relative => 1 | .unsure => 2 | .fallback => 3 | .late => 4 | .timeout => 5 | .off => 6
        field d (16 + 8 * i) 1 = e.axis ∧ field d (17 + 8 * i) 1 = status ∧ signedField d (18 + 8 * i) 6 = e.value

/-! ### Resets -/

/-- The four full resets leave every block at its reset values with their own cause; the frame being sent goes on, and
the model's own queue and index are kept (log 15; R16, R23, R185, R187, R188). FULL_REQUEST happens once the DONE
response of an addressed FULL RESET, or the forwarded copy of a broadcast one, no longer waits. The FULL RESET request
itself sets no state but MGA's: an addressed one is answered DONE and waits for that response to start, a broadcast one
for the forwarded copy of its frame; and MGA begins no further request while it waits. -/
def Obligations.FullResetsLeaveResetValues : Prop :=
  (∀ s : State,
    let after (cause : ResetCause) : State := { State.reset with
      cpt := { transmitter := s.cpt.transmitter }
      mga := { cause := cause }
      freeIndex := s.freeIndex
      pending := s.pending }
    exec .powerOn s = .next (after .powerOn) ∧ exec .pin s = .next (after .pin)
      ∧ exec .supplyDip s = .next (after .supplyDip)
      ∧ (s.mga.resetWait = some .response → (∀ r ∈ s.mga.responses, r.endsInReset = false) →
          exec .fullRequest s = .next (after .fullRequest))
      ∧ ∀ n, s.mga.resetWait = some (.copy n) → (∀ f ∈ s.cpt.forward, f.copyOf ≠ some n) →
          exec .fullRequest s = .next (after .fullRequest))
  ∧ (∀ (s : State) (r : Request), Executing s .fullReset r →
    exec .fullReset s = .next { s with mga := { s.mga with
      executing := none, resetWait := some .response
      responses := s.mga.responses ++ [⟨r.source, r.tag, r.code, .done, [], true⟩] } })
  ∧ (∀ (s : State) (r : Request), s.mga.executing = some r → r.op = some .fullReset → r.broadcast = true →
    exec .fullReset s = .next { s with mga := { s.mga with
      executing := none, resetWait := some (.copy r.copy) } })
  ∧ ∀ s : State, s.mga.resetWait ≠ none → exec .requestBegin s = .next s

/-- RESTART, taken by every block at once, clears what R186 lists and keeps the rest: the tables, settings, station,
error log, ended calibration records and the messages on their way, but for the records CAP has handed over (R173). MGA
sets the cause and answers DONE, unless the request was a broadcast. A block that takes it first, as an event of its own,
leads to the same state once the others have taken it (R186; the command's operand is the model's, log 14). -/
def Obligations.RestartClearsMeasurementAndKeepsConfiguration : Prop :=
  (∀ (s : State) (r : Request), s.mga.executing = some r → r.op = some .restart → s.mga.restartLeft = restartBlocks →
    exec (.restart none) s = .next { s with
      cpt := { s.cpt with bucket := 0, decay := 0, fairness := 0, established := false }
      axes := s.axes.map fun x =>
        { x with ctx := {}, cal := if x.cal.outcome = .running then { x.cal with outcome := .aborted } else x.cal }
      scu := { s.scu with groups := s.scu.groups.map fun g =>
        { g with applied := g.default_, lastValue := g.default_, lastTime := 0, stale := true } }
      cap := { s.cap with state := .stopped, entries := [], lastEdge := Vector.replicate 8 none }
      rqu := { delivery := s.rqu.delivery }
      fmn := { s.fmn with counters := Vector.replicate 8 0 }
      mga := { s.mga with
        executing := none, restartLeft := [], cause := .restartRequest
        responses := if r.broadcast then s.mga.responses
          else s.mga.responses ++ [⟨r.source, r.tag, r.code, .done, [], false⟩] }
      bus := { s.bus with records := [] } })
  ∧ ∀ (s t : State) (r : Request) (b : Block), s.mga.executing = some r → r.op = some .restart →
    s.mga.restartLeft.Nodup → b ∈ s.mga.restartLeft → exec (.restart (some b)) s = .next t →
    exec (.restart none) t = exec (.restart none) s

/-! ### MGA: beginning and answering requests -/

/-- MGA may begin a request: none is being executed, no FULL RESET waits and the response list has room (R175, R187). -/
abbrev BeginsNow (s : State) (r : Request) (rest : List Request) : Prop :=
  s.mga.executing = none ∧ s.mga.resetWait = none ∧ s.mga.responses.length < 4 ∧ s.mga.intake = r :: rest

/-- The request leaves the intake and reports one "management requests" event (R175). -/
abbrev begun (s : State) (rest : List Request) : State :=
  { s with
    mga := { s.mga with intake := rest }
    bus := { s.bus with reports := s.bus.reports ++ [⟨.mga, .managementRequests, 0⟩] } }

/-- An addressed request of the set with the arguments it needs is handed on when any station may send it or its source
is the controlling station, 1 … 250; a RESTART is handed to every block. One outside the set, or shorter than 4 bytes,
is answered UNKNOWN. A state-changing request from another station than the controlling station, or from a controlling
station outside 1 … 250, is answered DENIED and changes nothing but the intake and the response list (R175 to R177,
R186). MGA itself answers REFUSED_RANGE, and hands nothing on, to a request with too few argument bytes, to a CLEAR
ERRORS mask with an undefined bit, both before the access check (the model's order, log 18), and to a WRITE TABLE of a
table outside 1 … 12 after it (R176, R179, R182). -/
def Obligations.RequestsAreHandedOnDeniedOrUnknown : Prop :=
  (∀ (s : State) (r : Request) (rest : List Request) (op : RequestOp), BeginsNow s r rest → r.broadcast = false →
    r.op = some op → neededArgs op ≤ r.args.length →
    (op = .clearErrors → (field r.args 0 4).testBit 0 = false ∧ field r.args 0 4 < 67108864) →
    (op = .writeTable → 1 ≤ r.subject ∧ r.subject ≤ 12) →
    (anyStation op = true ∨ (r.source = s.cpt.controller ∧ 1 ≤ r.source ∧ r.source ≤ 250)) →
    exec .requestBegin s = .next { begun s rest with mga := { s.mga with
      intake := rest, executing := some r
      restartLeft := if op = .restart then restartBlocks else s.mga.restartLeft } })
  ∧ (∀ (s : State) (r : Request) (rest : List Request), BeginsNow s r rest → r.broadcast = false → r.op = none →
    exec .requestBegin s = .next { begun s rest with mga := { s.mga with intake := rest, executing := some r } })
  ∧ (∀ (s : State) (r : Request), s.mga.executing = some r → r.broadcast = false → r.op = none →
    exec .unknownRequest s = .next { s with
      mga := answered s.mga r .unknown [], bus := refusalReported s.bus })
  ∧ (∀ (s : State) (r : Request) (rest : List Request) (op : RequestOp), BeginsNow s r rest → r.broadcast = false →
    r.op = some op → anyStation op = false → neededArgs op ≤ r.args.length →
    (op = .clearErrors → (field r.args 0 4).testBit 0 = false ∧ field r.args 0 4 < 67108864) →
    (r.source ≠ s.cpt.controller ∨ r.source = 0 ∨ 250 < r.source) →
    exec .requestBegin s = .next { begun s rest with
      mga := answered { s.mga with intake := rest } r .denied []
      bus := refusalReported (begun s rest).bus })
  ∧ ∀ (s : State) (r : Request) (rest : List Request) (op : RequestOp), BeginsNow s r rest → r.broadcast = false →
    r.op = some op →
    (r.args.length < neededArgs op
      ∨ (op = .clearErrors ∧ neededArgs op ≤ r.args.length
          ∧ ((field r.args 0 4).testBit 0 = true ∨ 67108864 ≤ field r.args 0 4))
      ∨ (op = .writeTable ∧ r.source = s.cpt.controller ∧ 1 ≤ r.source ∧ r.source ≤ 250
          ∧ (r.subject = 0 ∨ 12 < r.subject))) →
    exec .requestBegin s = .next { begun s rest with
      mga := answered { s.mga with intake := rest } r .refusedRange []
      bus := refusalReported (begun s rest).bus }

/-- RESTART and FULL RESET act for any source station when broadcast; every other broadcast request is ended without
effect, and so is one of fewer than 4 bytes, a short RESTART or FULL RESET among them (the model's, log 19); none is
answered; each reports one "management requests" event, and one ended without effect also one "management refusals"
event (R175, R178). -/
def Obligations.BroadcastRequestsAreNeverAnswered : Prop :=
  ∀ (s : State) (r : Request) (rest : List Request), BeginsNow s r rest → r.broadcast = true →
    (r.op = some .restart →
      exec .requestBegin s = .next { begun s rest with
        mga := { s.mga with intake := rest, executing := some r, restartLeft := restartBlocks } }
      ∧ ∀ u : State, u.mga.executing = some r → ∀ b t, exec (.restart b) u = .next t →
          t.mga.responses = u.mga.responses)
    ∧ (r.op = some .fullReset →
      exec .requestBegin s = .next { begun s rest with mga := { s.mga with intake := rest, executing := some r } }
      ∧ ∀ u : State, u.mga.executing = some r → ∀ t, exec .fullReset u = .next t →
          t.mga.responses = u.mga.responses ∧ t.mga.resetWait = some (.copy r.copy))
    ∧ (r.op ≠ some .restart → r.op ≠ some .fullReset →
      exec .requestBegin s = .next { begun s rest with bus := refusalReported (begun s rest).bus })

/-- IDENTIFY answers DONE with the 19 bytes of R185. READ TABLE, AXIS STATUS, QUEUE STATUS, READ ERRORS and READ
COUNTERS are answered DONE with data of the size section 11.2 gives, AXIS STATUS with the 122 bytes its items take (log
21), and change nothing but MGA's answer; a READ TABLE out of range, or an axis above 5, is answered REFUSED_RANGE (R79,
R172, R179, R181, R196, R198). READ ERRORS holds the flag mask, the counts, FIRST and attention pending; READ COUNTERS
each selection and value; QUEUE STATUS the items of R172, with the offer condition whatever the reader station, and of
R146, the entries for zeroing only counted as those that request no record (log 26); AXIS STATUS the items of R79, R92,
R102 and R127 in this order, the codes of its states free (log 3). -/
def Obligations.ReadRequestsChangeOnlyTheAnswer : Prop :=
  (∀ (s : State) (r : Request),
    (Executing s .identify r →
      let data : List Byte := [0x31, 0x5A, 0xAC, 0x1C, 1, BitVec.ofNat 8 s.cpt.station,
        BitVec.ofNat 8 s.cpt.controller, BitVec.ofNat 8 s.mga.cause.code, 6, 4, 16, 64, 16, 128, 0, 32, 4, 8, 4]
      exec .identify s = .next { s with mga := answered s.mga r .done data })
    ∧ (Executing s .readTable r → readInRange r.subject r.index (field r.args 0 1) = true →
      ∃ data, exec .readTable s = .next { s with mga := answered s.mga r .done data } ∧ data.length ≤ 510
        ∧ data = readRange s r.subject r.index (field r.args 0 1)
        ∧ (readsHeader r.subject r.index (field r.args 0 1) = false →
            ∀ shape, tableShape r.subject = some shape → data.length = field r.args 0 1 * shape.2)
        ∧ (readsHeader r.subject r.index (field r.args 0 1) = true → data.length = 64))
    ∧ (Executing s .readTable r → readInRange r.subject r.index (field r.args 0 1) = false →
      exec .readTable s = .next { s with
        mga := answered s.mga r .refusedRange [], bus := refusalReported s.bus })
    ∧ (∀ a, ExecutingOn s .axisStatus r a →
      ∃ data, exec .axisStatus s = .next { s with mga := answered s.mga r .done data } ∧ data.length = 122
        ∧ data = statusBytes s.axes[a] (appliedOf s (s.axes[a]).settings.group))
    ∧ (Executing s .axisStatus r → 5 < r.subject →
      exec .axisStatus s = .next { s with
        mga := answered s.mga r .refusedRange [], bus := refusalReported s.bus })
    ∧ (Executing s .queueStatus r →
      exec .queueStatus s = .next { s with mga := answered s.mga r .done (queueBytes s) }
        ∧ (queueBytes s).length = 20)
    ∧ (Executing s .readErrors r →
      exec .readErrors s = .next { s with mga := answered s.mga r .done (errorBytes s.fmn) }
        ∧ (errorBytes s.fmn).length = 41)
    ∧ (Executing s .readCounters r →
      exec .readCounters s = .next { s with mga := answered s.mga r .done (counterBytes s.fmn) }
        ∧ (counterBytes s.fmn).length = 40))
  ∧ (∀ f : Fmn, f.logLegal →
    let d := errorBytes f
    let c := counterBytes f
    (∀ i : Fin 23, (field d 0 4).testBit (i.val + 1) = f.flags[i] ∧ field d (4 + i.val) 1 = f.counts[i])
      ∧ (field d 0 4).testBit 0 = false ∧ (field d 0 4).testBit 24 = f.operationEnded
      ∧ (field d 0 4).testBit 25 = f.queueWatermark ∧ field d 0 4 < 67108864
      ∧ (f.first = none → field d 27 13 = 0)
      ∧ (∀ x ∈ f.first, field d 27 1 = 1 ∧ field d 28 1 = x.kind.number ∧ field d 29 1 = x.subject % 256
          ∧ timeField d 30 = x.time ∧ field d 36 4 = x.detail.toNat)
      ∧ field d 40 1 = (if attentionPending f then 1 else 0)
      ∧ ∀ j : Fin 8, field c (5 * j.val) 1 = f.selections[j] ∧ field c (1 + 5 * j.val) 4 = f.counters[j])
  ∧ (∀ s : State, s.bounded →
    let d := queueBytes s
    field d 0 1 = s.rqu.queue.length ∧ field d 1 2 = s.rqu.sequence
      ∧ (s.rqu.queue = [] → field d 3 9 = 0)
      ∧ (∀ q ∈ s.rqu.queue.head?, field d 3 1 = 1 ∧ field d 4 2 = q.sequence % 65536 ∧ timeField d 6 = q.body.time)
      ∧ field d 12 2 = s.rqu.drops ∧ field d 14 1 = s.rqu.drain
      ∧ (field d 15 1 = 1 ↔ 0 < s.rqu.drain ∨ (s.rqu.delivery.pull = false
          ∧ (s.rqu.delivery.watermark ≤ s.rqu.queue.length ∨ s.rqu.ageDue = true)))
      ∧ field d 16 1 = (if s.rqu.ageDue then 1 else 0)
      ∧ field d 17 1 = (match s.cap.state with
          | .stopped => 0
          | .armed => 1
          | .halted => 2)
      ∧ field d 18 1 = s.cap.entries.length
      ∧ field d 19 1 = (s.cap.entries.filter fun e => e.record = false).length)
  ∧ ∀ (x : Axis) (applied : Int), x.ctx.ranged → x.ctx.signal < 281474976710656 → within48 x.ctx.offset = true →
    isExcess x.ctx.xRef → within48 x.ctx.zeroShift = true → x.cal.gathered → x.cal.reason ≤ 6 → x.cal.required ≤ 255 →
    x.cal.sampleLimit ≤ 1048576 → x.cal.seen ≤ 1048576 → x.cal.motion ≤ 4294967295 →
    let d := statusBytes x applied
    let c := x.ctx
    let r := x.cal
    let flag (b : Bool) : Nat := if b then 1 else 0
    let time (h : Option HistEntry) : Time := match h with
      | some e => e.time
      | none => 0
    (signedField d 1 6 = c.count ∧ signedField d 7 4 = c.tracking ∧ field d 11 2 = c.pcPrev ∧ timeField d 13 = c.tAcc
      ∧ timeField d 19 = c.tSeen ∧ field d 25 1 = c.ring.length ∧ timeField d 26 = time c.ring.head?
      ∧ timeField d 32 = time c.ring.getLast? ∧ field d 38 1 = c.bucket ∧ field d 39 1 = flag c.overspeed
      ∧ field d 40 1 = flag c.weak ∧ field d 41 6 = c.signal)
    ∧ (signedField d 47 6 = c.offset ∧ signedField d 53 4 = c.xRef
      ∧ signedField d 57 6 = if c.state = .off then 0
          else max (-140737488355327) (min 140737488355327 (rawPosition x c.count applied)))
    ∧ (timeField d 65 = c.refTime ∧ timeField d 71 = c.markTime ∧ signedField d 77 6 = c.zeroShift)
    ∧ field d 84 1 = r.reason ∧ field d 85 1 = r.required ∧ field d 86 4 = r.sampleLimit ∧ field d 90 4 = r.seen
      ∧ field d 94 4 = r.motion ∧ field d 98 1 = r.quadrants.toNat ∧ field d 99 1 = flag r.extremes
      ∧ signedField d 100 2 = r.maxC ∧ signedField d 102 2 = r.minC ∧ signedField d 104 2 = r.maxS
      ∧ signedField d 106 2 = r.minS ∧ signedField d 108 2 = r.sAtMaxC ∧ signedField d 110 2 = r.sAtMinC
      ∧ (isS16 r.oC → signedField d 112 2 = r.oC) ∧ (isS16 r.oS → signedField d 114 2 = r.oS)
      ∧ (0 ≤ r.gain → r.gain ≤ 65535 → (field d 116 2 : Int) = r.gain)
      ∧ (isS16 r.ks → signedField d 118 2 = r.ks) ∧ (0 ≤ r.kc → r.kc ≤ 65535 → (field d 120 2 : Int) = r.kc)

/-! ### Table writes -/

/-- A Source Table write in range whose entries' axes are OFF, that names no MARKER entry while ARMED and clashes with
no other entry replaces the whole entry and is answered DONE; a write that fails a test is answered with the first
failing step's status and changes nothing (R25 to R27). -/
def Obligations.SourceWritesFollowTheThreeSteps : Prop :=
  ∀ (s : State) (r : Request), Writing s 1 r →
    let refused (status : Status) : Host.Outcome State Fault Refusal := .next { s with
      mga := answered s.mga r status [], bus := refusalReported s.bus }
    (16 ≤ r.index ∨ r.args.length < 10 ∨ sourceOf r.args = none → exec .writeTableSource s = refused .refusedRange)
    ∧ ∀ (i : Fin 16) (new : Option SourceEntry), r.index = i.val → 10 ≤ r.args.length → sourceOf r.args = some new →
      let busy (e : Option SourceEntry) : Prop := ∃ x ∈ e, ∃ a n, x.kind = .samplePair a n ∧ (s.axes[a]).ctx.state ≠ .off
      let marker (e : Option SourceEntry) : Prop := ∃ x ∈ e, ∃ m a, x.kind = .marker m a
      let state : Prop := busy s.sfl.table[i] ∨ busy new
        ∨ ((marker s.sfl.table[i] ∨ marker new) ∧ s.cap.state = .armed)
      let clashing (x y : SourceEntry) : Prop :=
        (∃ a b p q, x.kind = .samplePair a p ∧ y.kind = .samplePair b q
            ∧ ((x.station = y.station ∧ x.channel = y.channel) ∨ a = b))
          ∨ (∃ m n a b, x.kind = .marker m a ∧ y.kind = .marker n b
            ∧ ((x.station = y.station ∧ x.channel = y.channel) ∨ m = n ∨ ∃ r, a = some r ∧ b = some r))
          ∨ (x.kind = .environment ∧ y.kind = .environment ∧ x.station = y.station ∧ x.channel = y.channel)
      let clash : Prop := ∃ x ∈ new, ∃ j : Fin 16, j ≠ i ∧ ∃ y ∈ s.sfl.table[j], clashing x y
      (state → exec .writeTableSource s = refused .refusedState)
      ∧ (¬state → clash → exec .writeTableSource s = refused .refusedConflict)
      ∧ (¬state → ¬clash → exec .writeTableSource s = .next { s with
          sfl := { table := s.sfl.table.set i.val new i.isLt }
          mga := answered s.mga r .done [] })

/-- A write of the Axis Table or the Nonlinearity Table in range replaces the entry of an axis in OFF and is answered
DONE; out of range it is answered REFUSED_RANGE, and for an axis not in OFF REFUSED_STATE, and nothing else
changes (R52). -/
def Obligations.AxisTableWritesNeedAnAxisInOff : Prop :=
  ∀ (s : State) (r : Request),
    let refused (status : Status) : Host.Outcome State Fault Refusal := .next { s with
      mga := answered s.mga r status [], bus := refusalReported s.bus }
    (Writing s 2 r →
      (6 ≤ r.index ∨ r.args.length < 43 ∨ axisSettingsOf r.args = none → exec .writeTableAxis s = refused .refusedRange)
      ∧ ∀ (a : AxisId) (new : AxisSettings), r.index = a.val → 43 ≤ r.args.length → axisSettingsOf r.args = some new →
        ((s.axes[a]).ctx.state ≠ .off → exec .writeTableAxis s = refused .refusedState)
        ∧ ((s.axes[a]).ctx.state = .off → exec .writeTableAxis s = .next { s with
            axes := s.axes.set a.val { s.axes[a] with settings := new } a.isLt
            mga := answered s.mga r .done [] }))
    ∧ (Writing s 3 r →
      (384 ≤ r.index ∨ r.args.length < 1 → exec .writeTableNonlinear s = refused .refusedRange)
      ∧ ∀ (a : AxisId) (k : Fin 64), r.index = 64 * a.val + k.val → 1 ≤ r.args.length →
        ((s.axes[a]).ctx.state ≠ .off → exec .writeTableNonlinear s = refused .refusedState)
        ∧ ((s.axes[a]).ctx.state = .off → exec .writeTableNonlinear s = .next { s with
            axes := s.axes.set a.val { s.axes[a] with
              nonlinear := (s.axes[a]).nonlinear.set k.val (signedField r.args 0 1) k.isLt } a.isLt
            mga := answered s.mga r .done [] }))

/-- Composite Table writes in range, with capture not ARMED and two different inputs, and Environment Group writes in
range, replace the entry, or the group's three settings with its running state kept, and are answered DONE (R87, R94).
Window Table and Capture Map writes in range with capture not ARMED, and Compare Table writes in range in every capture
state, replace the item and are answered DONE (R129, R130, R150). -/
def Obligations.ScalingAndCaptureWritesReplaceTheEntry : Prop :=
  (∀ (s : State) (r : Request),
    (Writing s 4 r → ∀ (c : Fin 4) (new : CompositeEntry), r.index = c.val → 14 ≤ r.args.length →
      compositeOf r.args = some new → s.cap.state ≠ .armed → inputsEqual new = false →
      exec .writeTableComposite s = .next { s with
        scu := { s.scu with composites := s.scu.composites.set c.val new c.isLt }
        mga := answered s.mga r .done [] })
    ∧ (Writing s 5 r → ∀ (g : GroupId) (new : GroupSettings), r.index = g.val → 12 ≤ r.args.length →
      groupSettingsOf r.args = some new →
      exec .writeTableEnvgroup s = .next { s with
        scu := { s.scu with groups := s.scu.groups.set g.val { s.scu.groups[g] with
          default_ := new.default_, slewLimit := new.slewLimit, staleLimit := new.staleLimit } g.isLt }
        mga := answered s.mga r .done [] }))
  ∧ (∀ (s : State) (r : Request),
    (Writing s 6 r → s.cap.state ≠ .armed →
      (∀ (i : Fin 32) (new : WindowEntry), r.index = i.val → 14 ≤ r.args.length → windowEntryOf r.args = some new →
        exec .writeTableWindow s = .next { s with
          cap := { s.cap with windows := s.cap.windows.set i.val new i.isLt }
          mga := answered s.mga r .done [] })
      ∧ ∀ new : WindowHeader, r.index = 32 → 8 ≤ r.args.length → windowHeaderOf r.args = some new →
        exec .writeTableWindow s = .next { s with
          cap := { s.cap with header := new }
          mga := answered s.mga r .done [] })
    ∧ (Writing s 7 r → s.cap.state ≠ .armed → ∀ (i : SourceId) (new : CapMapEntry), r.index = i.val →
      3 ≤ r.args.length → capMapOf r.args = some new →
      exec .writeTableCapmap s = .next { s with
        cap := { s.cap with map := s.cap.map.set i.val new i.isLt }
        mga := answered s.mga r .done [] })
    ∧ (Writing s 8 r → ∀ (j : Fin 4) (new : CompareSlot), r.index = j.val → 11 ≤ r.args.length →
      compareSlotOf r.args = some new →
      exec .writeTableCompare s = .next { s with
        cap := { s.cap with slots := s.cap.slots.set j.val new j.isLt }
        mga := answered s.mga r .done [] }))

/-- While capture is ARMED, writes in range of the Composite Table, the Window Table and the Capture Map are answered
REFUSED_STATE and leave every table as it was; out of range they are answered REFUSED_RANGE in every state, ARMED or
not, and so are writes of the Environment Group and Compare Tables. A composite in range whose two inputs are one axis is
answered REFUSED_CONFLICT when capture is not ARMED (R87, R94, R129, R130, R150, R182). -/
def Obligations.ArmedCaptureRefusesTableWrites : Prop :=
  ∀ (s : State) (r : Request),
    let refused (status : Status) : Host.Outcome State Fault Refusal := .next { s with
      mga := answered s.mga r status [], bus := refusalReported s.bus }
    (Writing s 4 r →
      (4 ≤ r.index ∨ r.args.length < 14 ∨ compositeOf r.args = none →
        exec .writeTableComposite s = refused .refusedRange)
      ∧ (r.index < 4 → 14 ≤ r.args.length → compositeOf r.args ≠ none → s.cap.state = .armed →
        exec .writeTableComposite s = refused .refusedState)
      ∧ ∀ new : CompositeEntry, r.index < 4 → 14 ≤ r.args.length → compositeOf r.args = some new →
        s.cap.state ≠ .armed →
        ((∃ a wa wb back, new = .weighted a a wa wb back) ∨ ∃ a sep, new = .diffRatio a a sep) →
        exec .writeTableComposite s = refused .refusedConflict)
    ∧ (Writing s 5 r → 4 ≤ r.index ∨ r.args.length < 12 ∨ groupSettingsOf r.args = none →
      exec .writeTableEnvgroup s = refused .refusedRange)
    ∧ (Writing s 8 r → 4 ≤ r.index ∨ r.args.length < 11 ∨ compareSlotOf r.args = none →
      exec .writeTableCompare s = refused .refusedRange)
    ∧ (Writing s 6 r →
      (32 < r.index → exec .writeTableWindow s = refused .refusedRange)
      ∧ (r.index < 32 → r.args.length < 14 ∨ windowEntryOf r.args = none →
        exec .writeTableWindow s = refused .refusedRange)
      ∧ (r.index = 32 → r.args.length < 8 ∨ windowHeaderOf r.args = none →
        exec .writeTableWindow s = refused .refusedRange)
      ∧ (r.index < 32 → 14 ≤ r.args.length → windowEntryOf r.args ≠ none → s.cap.state = .armed →
        exec .writeTableWindow s = refused .refusedState)
      ∧ (r.index = 32 → 8 ≤ r.args.length → windowHeaderOf r.args ≠ none → s.cap.state = .armed →
        exec .writeTableWindow s = refused .refusedState))
    ∧ (Writing s 7 r →
      (13 ≤ r.index ∨ r.args.length < 3 ∨ capMapOf r.args = none → exec .writeTableCapmap s = refused .refusedRange)
      ∧ (r.index < 13 → 3 ≤ r.args.length → capMapOf r.args ≠ none → s.cap.state = .armed →
        exec .writeTableCapmap s = refused .refusedState))

/-- A ROUTE write in range replaces the three switches of one kind; a COUNTSEL write replaces the counter's selection
and clears the counter; both are answered DONE in every state (R183, R193, R198). A DELIVERY write in range replaces the
five items at once, ends a running drain when it changes the reader station, and examines the flush age anew (R166; with
the chain down or no link time the model's reading, log 36) and keeps the fairness count, also where it ends the offer
(the model's, log 16); a TIMING write in range replaces the capture timeout and the chain-down limit together, and takes
the chain down at once when the running timer has reached the new limit (R20, R167, R183). Out of range each of the four
is answered REFUSED_RANGE and changes nothing (R182). -/
def Obligations.MonitorDeliveryAndTimingWritesActAtOnce : Prop :=
  (∀ (s : State) (r : Request),
    let refused : Host.Outcome State Fault Refusal := .next { s with
      mga := answered s.mga r .refusedRange [], bus := refusalReported s.bus }
    (Writing s 9 r → 23 ≤ r.index ∨ r.args.length < 1 ∨ 7 < field r.args 0 1 → exec .writeTableRoute s = refused)
    ∧ (Writing s 10 r → 8 ≤ r.index ∨ r.args.length < 1 ∨ 27 < field r.args 0 1 → exec .writeTableCountsel s = refused)
    ∧ (Writing s 11 r → r.index ≠ 0 ∨ r.args.length < 8 ∨ deliveryOf r.args = none →
      exec .writeTableDelivery s = refused)
    ∧ (Writing s 12 r → r.index ≠ 0 ∨ r.args.length < 6 ∨ timingOf r.args = none → exec .writeTableTiming s = refused))
  ∧ (∀ (s : State) (r : Request),
    (Writing s 9 r → ∀ (k : Fin 23) (x : Nat), r.index = k.val → 1 ≤ r.args.length → field r.args 0 1 = x → x < 8 →
      exec .writeTableRoute s = .next { s with
        fmn := { s.fmn with routes := s.fmn.routes.set k.val ⟨x % 2 = 1, x / 2 % 2 = 1, x / 4 = 1⟩ k.isLt }
        mga := answered s.mga r .done [] })
    ∧ (Writing s 10 r → ∀ (j : Fin 8) (e : Nat), r.index = j.val → 1 ≤ r.args.length → field r.args 0 1 = e → e ≤ 27 →
      exec .writeTableCountsel s = .next { s with
        fmn := { s.fmn with
          selections := s.fmn.selections.set j.val e j.isLt, counters := s.fmn.counters.set j.val 0 j.isLt }
        mga := answered s.mga r .done [] }))
  ∧ (∀ (s : State) (r : Request),
    (Writing s 11 r → ∀ new : Delivery, r.index = 0 → 8 ≤ r.args.length → deliveryOf r.args = some new →
      ∃ t, exec .writeTableDelivery s = .next t
        ∧ t = { s with
            rqu := { s.rqu with
              delivery := new, drain := if new.reader = s.rqu.delivery.reader then s.rqu.drain else 0
              ageDue := t.rqu.ageDue }
            mga := answered s.mga r .done [] }
        ∧ t.rqu.ageDue = ageDueNow t)
    ∧ (Writing s 12 r → ∀ timeout limit : Nat, r.index = 0 → 6 ≤ r.args.length →
      timingOf r.args = some (timeout, limit) →
      let t : State := { s with
        cap := { s.cap with timeout := timeout }
        cpt := { s.cpt with chainLimit := limit }
        mga := answered s.mga r .done [] }
      (s.cpt.station = 0 ∨ s.cpt.down = true ∨ s.cpt.timer < limit → exec .writeTableTiming s = .next t)
      ∧ (s.cpt.station ≠ 0 → s.cpt.down = false → limit ≤ s.cpt.timer →
        exec .writeTableTiming s = .next { t with
          cpt := { t.cpt with down := true }
          bus := { s.bus with
            raises := s.bus.raises ++ [⟨.cpt, .chainDown, 0, BitVec.ofNat 32 limit, 0⟩]
            linkEvents := s.bus.linkEvents.map (· ++ [.loss]) } })))

/-! ### Axis requests -/

/-- AXIS START of an enabled axis in OFF enters ACQUIRE with a fresh context, the silence reference at the observed link
time and x_ref at the group's applied value; any other axis, in OFF and not enabled or not in OFF, is answered
REFUSED_STATE (R57, R73, R88). ACCEPT moves SLIPPED to FREE and nothing else (R75). An axis number above 5 is answered
REFUSED_RANGE, to all eight requests that name an axis and change state (R73 to R75, R103, R111, R113, R116, R125). -/
def Obligations.AxisStartAndAcceptChangeTheState : Prop :=
  (∀ (s : State) (r : Request), 5 < r.subject →
    let refused : Host.Outcome State Fault Refusal := .next { s with
      mga := answered s.mga r .refusedRange [], bus := refusalReported s.bus }
    (Executing s .axisStart r → exec .axisStart s = refused) ∧ (Executing s .axisStop r → exec .axisStop s = refused)
    ∧ (Executing s .accept r → exec .accept s = refused)
    ∧ (Executing s .zeroAtReference r → exec .zeroAtReference s = refused)
    ∧ (Executing s .zeroCancel r → exec .zeroCancel s = refused) ∧ (Executing s .preset r → exec .preset s = refused)
    ∧ (Executing s .calibrate r → exec .calibrate s = refused)
    ∧ (Executing s .calibrateAbort r → exec .calibrateAbort s = refused))
  ∧ ∀ (s : State) (r : Request) (a : AxisId),
    (ExecutingOn s .axisStart r a →
      ((s.axes[a]).ctx.state = .off → (s.axes[a]).settings.enable = true →
        exec .axisStart s = .next { s with
          axes := s.axes.set a.val { s.axes[a] with
            ctx := { state := .acquire, silenceRef := s.cpt.observed
                     xRef := appliedOf s (s.axes[a]).settings.group } } a.isLt
          mga := answered s.mga r .done [] })
      ∧ ((s.axes[a]).ctx.state ≠ .off ∨ (s.axes[a]).settings.enable = false →
        exec .axisStart s = .next { s with mga := answered s.mga r .refusedState [], bus := refusalReported s.bus }))
    ∧ (ExecutingOn s .accept r a →
      ((s.axes[a]).ctx.state = .slipped →
        exec .accept s = .next { s with
          axes := s.axes.set a.val { s.axes[a] with ctx := { (s.axes[a]).ctx with state := .free } } a.isLt
          mga := answered s.mga r .done [] })
      ∧ ((s.axes[a]).ctx.state ≠ .slipped →
        exec .accept s = .next { s with mga := answered s.mga r .refusedState [], bus := refusalReported s.bus }))

/-- AXIS STOP of an axis not in OFF discards its context, ends a running calibration as ABORTED with OPERATION_ENDED,
and resolves OFF every field that waits for the axis, in every pending entry, in list order, with no error and no zero
outcome; the composites whose inputs have then resolved are resolved, an entry that is then complete leaves the list as
a record or without one, and the others stay in their order (one entry's record is made before the next entry is worked
on, log 30; several composites of one entry raise POSITION_SATURATED in ascending order, log 43). The request is
answered DONE; the other axes, the tables, the queues and the messages to the engines keep what they hold (R74, R126,
R142 to R144). -/
def Obligations.AxisStopResolvesItsFieldsOff : Prop :=
  ∀ (s : State) (r : Request) (a : AxisId), ExecutingOn s .axisStop r a → (s.axes[a]).ctx.state ≠ .off →
    let off (e : Entry) : Entry :=
      if e.raw[a] = some .waiting then { e with raw := e.raw.set a.val (some (.absent .off)) a.isLt } else e
    let stopped : State := { s with
      axes := s.axes.set a.val { s.axes[a] with
        ctx := {}
        cal := if (s.axes[a]).cal.outcome = .running then { (s.axes[a]).cal with outcome := .aborted }
          else (s.axes[a]).cal } a.isLt
      bus := { s.bus with sources := s.bus.sources ++
        if (s.axes[a]).cal.outcome = .running then [⟨.axe a, .operationEnded⟩] else [] } }
    let finished (u : State) (e : Entry) : State :=
      let v := u.raised (off e).saturations
      if (off e).settled.complete then completeEntry v (off e).settled else v
    let t := s.cap.entries.foldl finished stopped
    let kept : List Entry := (s.cap.entries.map fun e => (off e).settled).filter fun e => !e.complete
    exec .axisStop s = .next { t with cap := { t.cap with entries := kept }, mga := answered s.mga r .done [] }
      ∧ (∀ e ∈ kept, e.raw[a] ≠ some .waiting)
      ∧ t = { s with
          axes := stopped.axes, freeIndex := t.freeIndex, cap := { s.cap with lastEdge := t.cap.lastEdge }
          fmn := { s.fmn with flags := t.fmn.flags, counts := t.fmn.counts, first := t.fmn.first }
          bus := { stopped.bus with
            halts := t.bus.halts, records := t.bus.records, raises := t.bus.raises, reports := t.bus.reports } }

/-- ZERO AT REFERENCE arms a counting axis whose zero state is NONE and is answered STARTED; an armed one is answered
BUSY and left as it is; one in OFF, ACQUIRE or LOST is answered REFUSED_STATE (R103; of an armed axis in LOST the model's
order, log 34). ZERO CANCEL disarms an armed axis
and takes the mark from its pending entry; an axis that is not armed is answered REFUSED_STATE (R111). -/
def Obligations.ZeroRequestsArmAndDisarm : Prop :=
  ∀ (s : State) (r : Request) (a : AxisId),
    let c := (s.axes[a]).ctx
    let refused : State := { s with mga := answered s.mga r .refusedState [], bus := refusalReported s.bus }
    (ExecutingOn s .zeroAtReference r a →
      (c.counting = true → c.zero = .none →
        exec .zeroAtReference s = .next { s with
          axes := s.axes.set a.val { s.axes[a] with
            ctx := { c with zero := .waiting }, arming := (s.axes[a]).arming + 1 } a.isLt
          mga := answered s.mga r .started [] })
      ∧ (c.counting = true → c.zero ≠ .none →
        exec .zeroAtReference s = .next { s with mga := answered s.mga r .busy [] })
      ∧ (c.state = .off ∨ c.state = .acquire ∨ c.state = .lost → exec .zeroAtReference s = .next refused))
    ∧ (ExecutingOn s .zeroCancel r a →
      (c.zero ≠ .none →
        exec .zeroCancel s = .next { s with
          axes := s.axes.set a.val { s.axes[a] with ctx := { c with zero := .none } } a.isLt
          cap := { s.cap with entries := s.cap.entries.map fun e =>
            if e.zeroMark = some a then { e with zeroMark := none } else e }
          mga := answered s.mga r .done [] })
      ∧ (c.zero = .none → exec .zeroCancel s = .next refused))

/-- A PRESET of V that is answered DONE makes the axis's current position exactly V, with a dead-path term of 0; it
enters REFERENCED, keeps P, D, every history count, the zero state and the calibration, and changes no other axis (R113,
R92). It is answered REFUSED_RANGE for a V, or an offset, outside ±(2^47 − 1), and REFUSED_STATE for an axis in OFF,
ACQUIRE or LOST, in the order V, state, offset (the model's order of V and state, log 37); nothing else changes. Of the
ring the newest entry becomes referenced; every time, count, slip flag and older referenced flag is kept. -/
def Obligations.PresetMakesThePositionTheValue : Prop :=
  ∀ (s : State) (r : Request) (a : AxisId), ExecutingOn s .preset r a →
    let x := s.axes[a]
    let v := signedField r.args 0 6
    let applied := appliedOf s x.settings.group
    let refused (status : Status) : Host.Outcome State Fault Refusal := .next { s with
      mga := answered s.mga r status [], bus := refusalReported s.bus }
    (within48 v = false → exec .preset s = refused .refusedRange)
    ∧ (within48 v = true → x.ctx.counting = false → exec .preset s = refused .refusedState)
    ∧ (within48 v = true → x.ctx.counting = true →
        within48 (v - signedLength x.settings x.ctx.count applied) = false →
        exec .preset s = refused .refusedRange)
    ∧ (within48 v = true → x.ctx.counting = true → within48 (v - signedLength x.settings x.ctx.count applied) = true →
    ∃ t, exec .preset s = .next t
      ∧ currentPosition t.axes[a] (appliedOf t (t.axes[a]).settings.group) = v
      ∧ deadPathTerm x.settings.deadPath (t.axes[a]).ctx.xRef applied = 0
      ∧ (t.axes[a]).ctx = { x.ctx with
          state := .referenced, xRef := applied, offset := v - signedLength x.settings x.ctx.count applied
          ring := (t.axes[a]).ctx.ring, refKind := .preset, refTime := s.cpt.observed }
      ∧ (t.axes[a]).ctx.ring.map (·.count) = x.ctx.ring.map (·.count)
      ∧ (∀ h ∈ (t.axes[a]).ctx.ring.getLast?, h.referenced = true)
      ∧ (x.ctx.ring = [] → (t.axes[a]).ctx.ring = [])
      ∧ (∀ older h, x.ctx.ring = older ++ [h] → (t.axes[a]).ctx.ring = older ++ [{ h with referenced := true }])
      ∧ t = { s with
          axes := s.axes.set a.val { x with ctx := (t.axes[a]).ctx } a.isLt
          mga := answered s.mga r .done [] })

/-- CALIBRATE of a counting axis with M in 2 … 255, T in 1024 … 1,048,576 and no calibration running starts one with an
empty context and is answered STARTED; one that runs is answered BUSY and goes on (R116). CALIBRATE ABORT ends a running
one as ABORTED with OPERATION_ENDED, and is answered REFUSED_STATE with none running (R125). CALIBRATION_TIMEOUT of a
running calibration one sample short of its limit ends it as TIMEOUT with reason 6, CALIBRATION_REJECTED and
OPERATION_ENDED; the coefficients, the count and the state of the axis are unchanged (R124); that it stands alone,
without its sample, is the model's choice (log 8). Each seen sample adds 1 to the samples seen; a strong one updates the
extremes, the motion and the quadrants; the one that brings enough motion with all four quadrants completes the
calibration, which is rejected by the first test that fails (the offsets formed and the later values not, log 20) or
installed with the last sample's phase formed anew; otherwise the one that reaches T ends it by timeout (R117 to R124).
-/
def Obligations.CalibrationsStartAbortAndTimeOut : Prop :=
  (∀ (s : State) (r : Request) (a : AxisId),
    let x := s.axes[a]
    let m := field r.args 0 1
    let samples := field r.args 1 4
    let refused (status : Status) : Host.Outcome State Fault Refusal := .next { s with
      mga := answered s.mga r status [], bus := refusalReported s.bus }
    (ExecutingOn s .calibrate r a →
      (m < 2 ∨ samples < 1024 ∨ 1048576 < samples → exec .calibrate s = refused .refusedRange)
      ∧ (2 ≤ m → 1024 ≤ samples → samples ≤ 1048576 →
        (x.ctx.counting = false → exec .calibrate s = refused .refusedState)
        ∧ (x.ctx.counting = true → x.cal.outcome = .running →
          exec .calibrate s = .next { s with mga := answered s.mga r .busy [] })
        ∧ (x.ctx.counting = true → x.cal.outcome ≠ .running →
          exec .calibrate s = .next { s with
            axes := s.axes.set a.val { x with
              cal := { outcome := .running, required := m, sampleLimit := samples } } a.isLt
            mga := answered s.mga r .started [] })))
    ∧ (ExecutingOn s .calibrateAbort r a →
      (x.cal.outcome = .running →
        exec .calibrateAbort s = .next { s with
          axes := s.axes.set a.val { x with cal := { x.cal with outcome := .aborted } } a.isLt
          bus := { s.bus with sources := s.bus.sources ++ [⟨.axe a, .operationEnded⟩] }
          mga := answered s.mga r .done [] })
      ∧ (x.cal.outcome ≠ .running → exec .calibrateAbort s = refused .refusedState)))
  ∧ (∀ (s : State) (a : AxisId), (s.axes[a]).cal.outcome = .running →
    (s.axes[a]).cal.sampleLimit = (s.axes[a]).cal.seen + 1 →
    exec (.calibrationTimeout a) s = .next { s with
      axes := s.axes.set a.val { s.axes[a] with cal := { (s.axes[a]).cal with
        seen := (s.axes[a]).cal.seen + 1, outcome := .timeout, reason := 6 } } a.isLt
      bus := { s.bus with
        raises := s.bus.raises ++ [⟨.axe a, .calibrationRejected, a.val, 6, 0⟩]
        sources := s.bus.sources ++ [⟨.axe a, .operationEnded⟩] } })
  ∧ ∀ (s : State) (a : AxisId),
    let x := s.axes[a]
    let r := x.cal
    let goesOn (r : CalRecord) : State := { s with axes := s.axes.set a.val { x with cal := r } a.isLt }
    let ends (y : Axis) (errors : List RaiseMsg) : State := { s with
      axes := s.axes.set a.val y a.isLt
      bus := { s.bus with
        raises := s.bus.raises ++ errors, sources := s.bus.sources ++ [⟨.axe a, .operationEnded⟩] } }
    let rejected (r : CalRecord) (outcome : CalOutcome) (reason : Nat) : State :=
      ends { x with cal := { r with outcome := outcome, reason := reason } }
        [⟨.axe a, .calibrationRejected, a.val, BitVec.ofNat 32 reason, 0⟩]
    let more : CalRecord := { r with seen := r.seen + 1 }
    (r.outcome ≠ .running → ∀ sample, offerToCalibration s a sample = s)
    ∧ (r.outcome = .running →
      offerToCalibration s a none = (if r.seen + 1 < r.sampleLimit then goesOn more else rejected more .timeout 6)
      ∧ ∀ (c sn delta : Int) (pc : Nat),
        let fed : CalRecord := { more with
          motion := min 4294967295 (r.motion + delta.natAbs)
          quadrants := r.quadrants ||| (1#4 <<< (pc / 1024))
          extremes := true
          maxC := if r.extremes = true ∧ c ≤ r.maxC then r.maxC else c
          sAtMaxC := if r.extremes = true ∧ c ≤ r.maxC then r.sAtMaxC else sn
          minC := if r.extremes = true ∧ r.minC ≤ c then r.minC else c
          sAtMinC := if r.extremes = true ∧ r.minC ≤ c then r.sAtMinC else sn
          maxS := if r.extremes = true ∧ sn ≤ r.maxS then r.maxS else sn
          minS := if r.extremes = true ∧ r.minS ≤ sn then r.minS else sn }
        let spanC := fed.maxC - fed.minC
        let spanS := fed.maxS - fed.minS
        let offsets : CalRecord := { fed with
          oC := (fed.maxC + fed.minC + 1) / 2, oS := (fed.maxS + fed.minS + 1) / 2 }
        let gain : CalRecord := { offsets with gain := (2 * 16384 * spanC + spanS) / (2 * spanS) }
        let sine : CalRecord := { gain with
          ks := (2 * 16384 * (fed.sAtMaxC - fed.sAtMinC) + spanS) / (2 * spanS) }
        let result : CalRecord := { sine with kc := secantOf sine.ks }
        let new : AxisSettings := { x.settings with
          oC := result.oC, oS := result.oS, gain := result.gain, ks := result.ks, kc := result.kc }
        let last := stage1 new x.ctx.lastC x.ctx.lastS
        let ended : State :=
          if spanC < 2 * x.settings.wLo then rejected offsets .rejected 1
          else if spanS = 0 ∨ spanS < 2 * x.settings.wLo then rejected offsets .rejected 2
          else if gain.gain < 8192 ∨ 32768 < gain.gain then rejected gain .rejected 3
          else if 4096 < |sine.ks| then rejected sine .rejected 4
          else if last = (0, 0) then rejected result .rejected 5
          else ends { x with
            settings := new
            ctx := { x.ctx with pcPrev := correctedPhase x.nonlinear (phase last.1 last.2) }
            cal := { result with outcome := .installed } } []
        offerToCalibration s a (some (c, sn, pc, delta)) =
          if r.required * 4096 ≤ fed.motion ∧ fed.quadrants = 15#4 then ended
          else if r.seen + 1 < r.sampleLimit then goesOn fed else rejected fed .timeout 6)

/-! ### Capture and queue requests -/

/-- ARM in STOPPED or HALTED makes the three tests of R134 in their order and is answered by the first that fails,
changing nothing; passing all, it clears the last-edge positions, enters ARMED and keeps the pending list. In ARMED it
is answered REFUSED_STATE. -/
def Obligations.ArmMakesItsTestsInOrder : Prop :=
  ∀ (s : State) (r : Request), Executing s .arm r →
    let refused (status : Status) : Host.Outcome State Fault Refusal := .next { s with
      mga := answered s.mga r status [], bus := refusalReported s.bus }
    let maskOk : Prop := ∀ (i : SourceId) (c : Fin 4),
      (s.cap.map[i]).mask.getLsbD (6 + c.val) = true → s.scu.composites[c] ≠ .unused
    let axisOk : Prop := s.cap.header.axis.val < 6 ∨ ∃ (c : Fin 4) (a b : AxisId) (wa wb : Int) (f : Bool),
      s.cap.header.axis.val = 6 + c.val ∧ s.scu.composites[c] = .weighted a b wa wb f
    let limit (i : Nat) : Int := if i = 0 then s.cap.header.base else (s.cap.windows.toList.map (·.limit)).getD (i - 1) 0
    let orderOk : Prop := ∀ i, i < min s.cap.header.valid 32 → limit i < limit (i + 1)
    (s.cap.state = .armed → exec .arm s = refused .refusedState)
    ∧ (s.cap.state ≠ .armed → ¬maskOk → exec .arm s = refused .refusedRange)
    ∧ (s.cap.state ≠ .armed → maskOk → ¬axisOk → exec .arm s = refused .refusedRange)
    ∧ (s.cap.state ≠ .armed → maskOk → axisOk → ¬orderOk → exec .arm s = refused .refusedOrder)
    ∧ (s.cap.state ≠ .armed → maskOk → axisOk → orderOk →
        exec .arm s = .next { s with
          cap := { s.cap with state := .armed, lastEdge := Vector.replicate 8 none }
          mga := answered s.mga r .done [] })

/-- STOP CAPTURE empties the pending list and enters STOPPED, reports one "discarded by stop" event for each removed
entry, returns an axis RESOLVING for a removed entry to WAITING when no earlier message of CAP stands before its engine
(the model's choice, log 9; behind an earlier message the notice of each removed entry joins the end of that engine's
line and its zero state is kept), and keeps the record queue, the Capture Map, the slots, the Window Table and the
last-edge positions (R135). -/
def Obligations.StopCaptureEmptiesThePendingList : Prop :=
  ∀ (s : State) (r : Request), Executing s .stopCapture r →
    ∃ t, exec .stopCapture s = .next t
      ∧ t.cap = { s.cap with state := .stopped, entries := [] }
      ∧ t.mga = answered s.mga r .done []
      ∧ t.bus.reports = s.bus.reports ++ (s.cap.entries.map fun _ => ⟨.cap, .discardedByStop, 0⟩)
      ∧ (∀ a : AxisId, s.bus.zeroMsgs[a] = [] →
          (t.axes[a]).ctx.zero = (match (s.axes[a]).ctx.zero with
            | .resolving e => if ∃ x ∈ s.cap.entries, x.id = e ∧ x.zeroMark = some a then .waiting else .resolving e
            | z => z)
          ∧ t.bus.zeroMsgs[a] = [])
      ∧ (∀ a : AxisId, s.bus.zeroMsgs[a] ≠ [] →
          (t.axes[a]).ctx.zero = (s.axes[a]).ctx.zero
          ∧ t.bus.zeroMsgs[a] = s.bus.zeroMsgs[a]
            ++ (s.cap.entries.filter fun e => e.zeroMark = some a).map fun e => .removed e.id)
      ∧ (∀ a : AxisId, t.axes[a] = { s.axes[a] with
          ctx := { (s.axes[a]).ctx with zero := (t.axes[a]).ctx.zero } })
      ∧ t = { s with
          cap := t.cap, mga := t.mga, axes := t.axes
          bus := { s.bus with reports := t.bus.reports, zeroMsgs := t.bus.zeroMsgs } }

/-- MANUAL CAPTURE is answered REFUSED_STATE in STOPPED and HALTED and for an empty mask, counting a dropped trigger in
HALTED; FULL with PENDING_FULL when the list holds 16 entries; otherwise it is taken as a MANUAL trigger of the given or
the observed link time, for every mask and whether its fields wait or resolve at once, and answered DONE (R132; how a
trigger is taken stands in TriggersFollowTheCaptureState). When one raw axis is named, it is counting, and the time is
later than its newest sample and not yet past the capture timeout, the new entry waits at the end of the list (R138; the
link time that stands is meant in every state of the chain, log 44). -/
def Obligations.ManualCaptureTakesATrigger : Prop :=
  ∀ (s : State) (r : Request), Executing s .manualCapture r →
    let time := if 10 ≤ r.payload.length then timeField r.args 0 else s.cpt.observed
    let refused : State := { s with mga := answered s.mga r .refusedState [], bus := refusalReported s.bus }
    (s.cap.state = .stopped → exec .manualCapture s = .next refused)
    ∧ (s.cap.state = .halted →
        exec .manualCapture s = .next { refused with bus := { s.bus with reports := s.bus.reports ++
          [⟨.cap, .triggersDropped, 0⟩, ⟨.mga, .managementRefusals, 0⟩] } })
    ∧ (s.cap.state = .armed → (s.cap.map[(12 : SourceId)]).mask = 0 → exec .manualCapture s = .next refused)
    ∧ (s.cap.state = .armed → (s.cap.map[(12 : SourceId)]).mask ≠ 0 → 16 ≤ s.cap.entries.length →
        exec .manualCapture s = .next { s with
          bus := { s.bus with
            raises := s.bus.raises ++ [⟨.cap, .pendingFull, 12, 3, 0⟩]
            reports := s.bus.reports ++ [⟨.cap, .triggersDropped, 0⟩] }
          mga := answered s.mga r .full [] })
    ∧ (s.cap.state = .armed → (s.cap.map[(12 : SourceId)]).mask ≠ 0 → s.cap.entries.length < 16 →
        exec .manualCapture s = .next { takeTrigger ⟨.manual, 12, .none, time⟩ true none s with
          mga := answered s.mga r .done [] })
    ∧ ∀ a : AxisId, s.cap.state = .armed → s.cap.entries.length < 16 →
        (s.cap.map[(12 : SourceId)]).mask = 1#10 <<< a.val → (s.axes[a]).ctx.counting = true →
        (s.axes[a]).ctx.ring ≠ [] → (∀ h ∈ (s.axes[a]).ctx.ring, later time h.time = true) →
        (∀ h ∈ (s.axes[a]).ctx.ring, later h.time time = false) →
        later s.cpt.observed (after time s.cap.timeout) = false →
        exec .manualCapture s = .next { s with
          cap := { s.cap with
            nextId := s.cap.nextId + 1
            entries := s.cap.entries ++ [
              { id := s.cap.nextId, kind := .manual, source := 12, polarity := .none, time := time, record := true
                mask := 1#10 <<< a.val, gated := (s.cap.map[(12 : SourceId)]).gated, zeroMark := none
                windowAxis := none, copies := Vector.replicate 4 none
                raw := (Vector.replicate 6 none).set a.val (some .waiting) a.isLt
                composite := Vector.replicate 4 none }] }
          bus := { s.bus with reports := s.bus.reports ++ [⟨.cap, .triggersTaken, 0⟩] }
          mga := answered s.mga r .done [] }

/-- DRAIN from the reader station with a count of 1 … 128 and no drain running sets the drain count to the lesser of the
count and the queue level and returns it; its refusals come in the order DENIED, REFUSED_RANGE, BUSY (R168). FLUSH QUEUE
empties the queue, ends a drain, keeps the drop and sequence counters and returns the number removed, each reported; it
keeps the fairness count though the offer ends (R170; the model's, log 16). -/
def Obligations.DrainAndFlushFollowTheQueue : Prop :=
  ∀ (s : State) (r : Request),
    let count := field r.args 0 1
    let refused (status : Status) : Host.Outcome State Fault Refusal := .next { s with
      mga := answered s.mga r status [], bus := refusalReported s.bus }
    (Executing s .drain r →
      (r.source ≠ s.rqu.delivery.reader ∨ s.rqu.delivery.reader = 0 → exec .drain s = refused .denied)
      ∧ (r.source = s.rqu.delivery.reader → s.rqu.delivery.reader ≠ 0 →
        (count = 0 ∨ 128 < count → exec .drain s = refused .refusedRange)
        ∧ (1 ≤ count → count ≤ 128 → 0 < s.rqu.drain →
          exec .drain s = .next { s with mga := answered s.mga r .busy [] })
        ∧ (1 ≤ count → count ≤ 128 → s.rqu.drain = 0 →
          exec .drain s = .next { s with
            rqu := { s.rqu with drain := min count s.rqu.queue.length }
            mga := answered s.mga r .done [BitVec.ofNat 8 (min count s.rqu.queue.length)] })))
    ∧ (Executing s .flushQueue r →
      exec .flushQueue s = .next { s with
        rqu := { s.rqu with queue := [], drain := 0, ageDue := false }
        bus := if s.rqu.queue = [] then s.bus
          else { s.bus with reports := s.bus.reports ++ [⟨.rqu, .recordsFlushed, s.rqu.queue.length - 1⟩] }
        mga := answered s.mga r .done [BitVec.ofNat 8 s.rqu.queue.length] })

/-- CLEAR ERRORS clears the flag and the count of each named kind, each named attention source, and a FIRST record of a
named kind, and leaves everything the mask does not name; a mask with an undefined bit is answered REFUSED_RANGE (R179,
R192). CLEAR COUNTERS sets the named counters to 0 and keeps the selections (R198). -/
def Obligations.ClearRequestsClearWhatTheMaskNames : Prop :=
  ∀ (s : State) (r : Request),
    let mask := field r.args 0 4
    (Executing s .clearErrors r →
      (mask.testBit 0 = true ∨ 67108864 ≤ mask →
        exec .clearErrors s = .next { s with mga := answered s.mga r .refusedRange [], bus := refusalReported s.bus })
      ∧ (mask.testBit 0 = false → mask < 67108864 →
        ∃ t, exec .clearErrors s = .next t
          ∧ (∀ i : Fin 23, t.fmn.flags[i] = (s.fmn.flags[i] && !mask.testBit (i.val + 1))
              ∧ t.fmn.counts[i] = if mask.testBit (i.val + 1) then 0 else s.fmn.counts[i])
          ∧ t.fmn.operationEnded = (s.fmn.operationEnded && !mask.testBit 24)
          ∧ t.fmn.queueWatermark = (s.fmn.queueWatermark && !mask.testBit 25)
          ∧ t.fmn.first = s.fmn.first.filter fun x => !mask.testBit x.kind.number
          ∧ t = { s with
              fmn := { s.fmn with
                flags := t.fmn.flags, counts := t.fmn.counts, first := t.fmn.first
                operationEnded := t.fmn.operationEnded, queueWatermark := t.fmn.queueWatermark }
              mga := answered s.mga r .done [] }))
    ∧ (Executing s .clearCounters r →
      ∃ t, exec .clearCounters s = .next t
        ∧ (∀ j : Fin 8, t.fmn.counters[j] = if (field r.args 0 1).testBit j.val then 0 else s.fmn.counters[j])
        ∧ t = { s with
            fmn := { s.fmn with counters := t.fmn.counters }
            mga := answered s.mga r .done [] })

/-! ### The events of the Axis Engines -/

/-- The oldest sample delivered to axis a is m, and rest stands behind it. -/
abbrev Arrives (s : State) (a : AxisId) (m : SampleMsg) (rest : List SampleMsg) : Prop :=
  s.bus.samples[a] = m :: rest

/-- A sample for an axis in OFF is discarded with a "samples discarded" event; one not later than the latest seen is
stale and reports "stale samples"; neither changes the axis (R58). A seen weak sample moves the sample-seen time and the
silence reference, replaces the signal reading, sets the weak flag, fills the bucket and counts toward its decay,
raising SIGNAL_DEGRADED at the step to the threshold, reports "weak samples" and counts in a running calibration; the
count, the ring and the state are unchanged (R42, R44, R45, R58 to R60, R117). BUCKET_DECAY at a decay count one short
of its interval returns it to 0 and lowers the bucket (R60); that it stands alone, without its sample, is the model's
choice (log 8). -/
def Obligations.UnseenSamplesChangeNoAxis : Prop :=
  ∀ (s : State) (a : AxisId),
    (∀ m rest, Arrives s a m rest →
      let after (e : Event) : State := { s with bus := { s.bus with
        samples := s.bus.samples.set a.val rest a.isLt, reports := s.bus.reports ++ [⟨.axe a, e, 0⟩] } }
      ((s.axes[a]).ctx.state = .off → exec (.sampleArrival a) s = .next (after .samplesDiscarded))
      ∧ ((s.axes[a]).ctx.state ≠ .off → (s.axes[a]).ctx.seenMark = true →
          later m.time (s.axes[a]).ctx.tSeen = false → exec (.sampleArrival a) s = .next (after .staleSamples)))
    ∧ (∀ m rest, Arrives s a m rest →
      let x := s.axes[a]
      let c := x.ctx
      let uv := stage1 x.settings m.c m.s
      let bucket := min 255 (c.bucket + 1)
      let decays := x.settings.decayInterval ≤ c.decay + 1
      c.state ≠ .off → (c.seenMark = false ∨ later m.time c.tSeen = true) →
      judgedWeak x.settings c.weak m.overrange uv = true →
        exec (.sampleArrival a) s = .next (offerToCalibration { s with
          axes := s.axes.set a.val { x with ctx := { c with
            tSeen := m.time, seenMark := true, silenceRef := m.time, silenceMark := false
            signal := (uv.1 * uv.1 + uv.2 * uv.2).toNat, weak := true
            decay := if decays then 0 else c.decay + 1, bucket := if decays then bucket - 1 else bucket } } a.isLt
          bus := { s.bus with
            samples := s.bus.samples.set a.val rest a.isLt
            raises := s.bus.raises ++ (if c.bucket + 1 = x.settings.bucketThreshold then
              [⟨.axe a, .signalDegraded, a.val, BitVec.ofNat 32 x.settings.bucketThreshold, 0⟩] else [])
            reports := s.bus.reports ++ [⟨.axe a, .weakSamples, 0⟩] } } a none))
    ∧ ((s.axes[a]).ctx.state ≠ .off → (s.axes[a]).settings.decayInterval = (s.axes[a]).ctx.decay + 1 →
      exec (.bucketDecay a) s = .next { s with
        axes := s.axes.set a.val { s.axes[a] with
          ctx := { (s.axes[a]).ctx with decay := 0, bucket := (s.axes[a]).ctx.bucket - 1 } } a.isLt })

/-- A strong sample of a counting axis, with no pending field waiting for the axis and no calibration running: the
residual e is the phase step less the prediction, wrapped to the nearest; with k head periods at or below the gap limit
the increment is D·k + e, and above it the wrapped step; the count moves by it within ±(2^47 − 1); the sample enters the
ring, slip-flagged for a jump, a gap or a limit, and a slip takes REFERENCED to SLIPPED (R62 to R67, R69, R71). In every
state of the axis, and whatever waits: a strong sample in ACQUIRE starts the count at 0 in FREE (R61); one in LOST is a
gap and enters SLIPPED (R70); each raises SLIP_JUMP or SLIP_GAP, POSITION_SATURATED and OVERSPEED in this order (R81),
reports "slips" and "samples accepted", and keeps O, x_ref and the zero state; CAP then tests every field that waits for
the axis, in list order (one entry's record is made before the next entry is tested, log 30; several composites of one
entry raise POSITION_SATURATED in ascending order, log 43), and the sample is offered to a running calibration (R69,
R117, R139, R144). -/
def Obligations.StrongSamplesMoveTheCount : Prop :=
  (∀ (s : State) (a : AxisId) (m : SampleMsg) (rest : List SampleMsg), Arrives s a m rest →
    let x := s.axes[a]
    let c := x.ctx
    let uv := stage1 x.settings m.c m.s
    let pc := correctedPhase x.nonlinear (phase uv.1 uv.2)
    c.counting = true → (c.seenMark = false ∨ later m.time c.tSeen = true) →
    judgedWeak x.settings c.weak m.overrange uv = false → x.cal.outcome ≠ .running →
    (∀ e ∈ s.cap.entries, e.raw[a] ≠ some .waiting) → s.entriesUnresolved →
    let elapsed : Nat := (m.time - c.tAcc).toNat
    let k : Nat := max 1 ((2 * elapsed + m.period) / (2 * m.period))
    let near (z : Int) : Int := (z + 2048) % 4096 - 2048
    let gap : Prop := x.settings.gapLimit < k
    let e : Int := near (pc - c.pcPrev - c.tracking * k)
    ∃ t, exec (.sampleArrival a) s = .next t ∧ ∃ (delta : Int) (slip : Bool),
      (gap → delta = near (pc - c.pcPrev) ∧ slip = true ∧ (t.axes[a]).ctx.tracking = 0)
      ∧ (¬gap → delta = c.tracking * k + e
          ∧ (slip = true ↔ (x.settings.slipLimit : Int) < |e| ∨ within48 (c.count + delta) = false)
          ∧ (t.axes[a]).ctx.tracking =
              max (-1048575) (min 1048575 ((2 * delta + k) / (2 * (k : Int)))))
      ∧ (t.axes[a]).ctx.count = max (-140737488355327) (min 140737488355327 (c.count + delta))
      ∧ (t.axes[a]).ctx.pcPrev = pc ∧ (t.axes[a]).ctx.tAcc = m.time ∧ (t.axes[a]).ctx.tSeen = m.time
      ∧ (t.axes[a]).ctx.state = (if slip = true ∧ c.state = .referenced then .slipped else c.state)
      ∧ (t.axes[a]).ctx.ring = (if c.ring.length < 64 then c.ring else c.ring.drop 1) ++
          [⟨m.time, (t.axes[a]).ctx.count, slip, (t.axes[a]).ctx.state == .referenced⟩]
      ∧ (t.axes[a]).settings = x.settings ∧ (t.axes[a]).nonlinear = x.nonlinear ∧ (t.axes[a]).cal = x.cal
      ∧ (∀ b : AxisId, b ≠ a → t.axes[b] = s.axes[b])
      ∧ t = { s with axes := t.axes, bus := { s.bus with
          samples := s.bus.samples.set a.val rest a.isLt, raises := t.bus.raises, reports := t.bus.reports } })
  ∧ ∀ (s : State) (a : AxisId) (m : SampleMsg) (rest : List SampleMsg), Arrives s a m rest →
    let x := s.axes[a]
    let c := x.ctx
    let uv := stage1 x.settings m.c m.s
    let pc := correctedPhase x.nonlinear (phase uv.1 uv.2)
    c.state ≠ .off → (c.seenMark = false ∨ later m.time c.tSeen = true) →
    judgedWeak x.settings c.weak m.overrange uv = false →
    let r : Nat := (uv.1 * uv.1 + uv.2 * uv.2).toNat
    let decays := x.settings.decayInterval ≤ c.decay + 1
    let push (h : HistEntry) : List HistEntry := (if c.ring.length < 64 then c.ring else c.ring.drop 1) ++ [h]
    let seen : AxisContext := { c with
      tSeen := m.time, seenMark := true, silenceRef := m.time, silenceMark := false, signal := r
      weak := c.weak && decide (r < x.settings.wHi * x.settings.wHi)
      decay := if decays then 0 else c.decay + 1, bucket := if decays then c.bucket - 1 else c.bucket
      pcPrev := pc, tAcc := m.time, lastC := m.c, lastS := m.s }
    let accepted (c : AxisContext) (raises : List RaiseMsg) (reports : List ReportMsg) : State := { s with
      axes := s.axes.set a.val { x with ctx := c } a.isLt
      bus := { s.bus with
        samples := s.bus.samples.set a.val rest a.isLt
        raises := s.bus.raises ++ raises
        reports := s.bus.reports ++ reports ++ [⟨.axe a, .samplesAccepted, 0⟩] } }
    let goesOn (u : State) (delta : Int) : Prop :=
      exec (.sampleArrival a) s =
        .next (offerToCalibration (swept (testRaw a) u) a (some (m.c, m.s, pc, delta)))
    (c.state = .acquire → goesOn (accepted { seen with
      state := .free, count := 0, tracking := 0, ring := push ⟨m.time, 0, true, false⟩ } [] []) 0)
    ∧ (c.state ≠ .acquire →
      let k : Nat := max 1 ((2 * (m.time - c.tAcc).toNat + m.period) / (2 * m.period))
      let near (z : Int) : Int := (z + 2048) % 4096 - 2048
      let gap : Prop := c.state = .lost ∨ x.settings.gapLimit < k
      let e : Int := near (pc - c.pcPrev - c.tracking * k)
      let delta : Int := if gap then near (pc - c.pcPrev) else c.tracking * k + e
      let tracking : Int := if gap then 0 else max (-1048575) (min 1048575 ((2 * delta + k) / (2 * (k : Int))))
      let jump : Prop := ¬gap ∧ (x.settings.slipLimit : Int) < |e|
      let sum := c.count + delta
      let beyond : Prop := within48 sum = false
      let slip : Bool := decide (gap ∨ jump ∨ beyond)
      let state : AxisState := if c.state = .lost ∨ (c.state = .referenced ∧ slip = true) then .slipped else c.state
      let fast : Prop := (x.settings.overspeedThreshold : Int) < |tracking|
      let count := max (-140737488355327) (min 140737488355327 sum)
      let raise (kind : ErrorKind) (detail : BitVec 32) : RaiseMsg := ⟨.axe a, kind, a.val, detail, 0⟩
      goesOn (accepted { seen with
          state := state, count := count, tracking := tracking, overspeed := decide fast
          ring := push ⟨m.time, count, slip, decide (state = .referenced)⟩ }
        ((if gap then [raise .slipGap (BitVec.ofNat 32 (min k 4294967295))] else [])
          ++ (if jump then [raise .slipJump (BitVec.ofInt 32 e)] else [])
          ++ (if beyond then [raise .positionSaturated (if 0 < sum then 1 else 2)] else [])
          ++ (if fast ∧ c.overspeed = false then [raise .overspeed (BitVec.ofNat 32 tracking.natAbs)] else []))
        (if slip then [⟨.axe a, .slips, 0⟩] else [])) delta)

/-- At an advance past its silence deadline a counting axis enters LOST with AXIS_LOST, detail 0, and an axis in ACQUIRE
whose mark is clear raises HEAD_SILENT once and stays; at the chain-down loss a counting axis enters LOST with detail 1.
A running calibration ends ABORTED with OPERATION_ENDED; the ring and the count are kept (R76, R77, R126). -/
def Obligations.SilenceAndChainLossLoseCountingAxes : Prop :=
  ∀ (s : State) (a : AxisId) (rest : List LinkEvent),
    let x := s.axes[a]
    let lost (detail : BitVec 32) : State := { s with
      axes := s.axes.set a.val { x with
        ctx := { x.ctx with state := .lost }
        cal := if x.cal.outcome = .running then { x.cal with outcome := .aborted } else x.cal } a.isLt
      bus := { s.bus with
        linkEvents := s.bus.linkEvents.set a.val rest a.isLt
        raises := s.bus.raises ++ [⟨.axe a, .axisLost, a.val, detail, 0⟩]
        sources := s.bus.sources ++ (if x.cal.outcome = .running then [⟨.axe a, .operationEnded⟩] else []) } }
    let popped : State := { s with bus := { s.bus with linkEvents := s.bus.linkEvents.set a.val rest a.isLt } }
    (∀ time : Time, s.bus.linkEvents[a] = .advance time :: rest →
      let passed := later time (after x.ctx.silenceRef x.settings.silenceLimit)
      (passed = true → x.ctx.counting = true → exec (.axisSilence a) s = .next (lost 0))
      ∧ (passed = true → x.ctx.state = .acquire → x.ctx.silenceMark = false →
          exec (.axisSilence a) s = .next { popped with
            axes := s.axes.set a.val { x with ctx := { x.ctx with silenceMark := true } } a.isLt
            bus := { popped.bus with raises := s.bus.raises ++
              [⟨.axe a, .headSilent, a.val, BitVec.ofNat 32 x.settings.silenceLimit, 0⟩] } })
      ∧ (passed = false ∨ x.ctx.state = .off ∨ x.ctx.state = .lost ∨
            (x.ctx.state = .acquire ∧ x.ctx.silenceMark = true) →
          exec (.axisSilence a) s = .next popped))
    ∧ (s.bus.linkEvents[a] = .loss :: rest →
      (x.ctx.counting = true → exec (.axisChainLoss a) s = .next (lost 1))
      ∧ (x.ctx.counting = false → exec (.axisChainLoss a) s = .next popped))

/-- The engine takes the notice of a zero-resolution entry within the arming in which CAP found it, WAITING becoming
RESOLVING for it, and ignores any other; the notice that STOP CAPTURE removed the entry it resolves returns it to
WAITING (R104, R135; the numbers of entries and armings are the model's, log 23, and so is a removal's notice behind
other messages, log 9). A bracketed outcome of that entry without a slip is applied to a counting axis: the count and
every history count are lowered by P_ref within ±(2^47 − 1), with POSITION_SATURATED, detail 5, where one had to be
limited, the referenced flags are set as R109 says, O becomes the reference position, x_ref the group's applied value,
the axis enters REFERENCED and OPERATION_ENDED is raised; in LOST it returns the zero to WAITING with REFERENCE_UNSURE,
detail 2; one with a slip returns it to WAITING with detail 1, and LATE, TIMEOUT and OFF without (R106 to R109). An
outcome of another entry is discarded. -/
def Obligations.ZeroOutcomesTieTheCount : Prop :=
  ∀ (s : State) (a : AxisId) (rest : List ZeroMsg),
    let x := s.axes[a]
    let taken : Bus := { s.bus with zeroMsgs := s.bus.zeroMsgs.set a.val rest a.isLt }
    let zeroIs (z : ZeroState) : Vector Axis 6 := s.axes.set a.val { x with ctx := { x.ctx with zero := z } } a.isLt
    (∀ entry found, s.bus.zeroMsgs[a] = .placed entry found :: rest →
      exec (.zeroNotice a) s = .next { s with
        bus := taken
        axes := if x.ctx.zero = .waiting ∧ found = x.arming then zeroIs (.resolving entry) else s.axes })
    ∧ (∀ entry, s.bus.zeroMsgs[a] = .removed entry :: rest →
      exec (.zeroNotice a) s = .next { s with
        bus := taken, axes := if x.ctx.zero = .resolving entry then zeroIs .waiting else s.axes })
    ∧ ∀ entry result, s.bus.zeroMsgs[a] = .outcome entry result :: rest →
      (x.ctx.zero ≠ .resolving entry → exec (.zeroOutcome a) s = .next { s with bus := taken })
      ∧ (x.ctx.zero = .resolving entry →
        (result = .late ∨ result = .timeout ∨ result = .off →
          exec (.zeroOutcome a) s = .next { s with bus := taken, axes := zeroIs .waiting })
        ∧ (∀ pRef tRef, result = .bracket pRef true tRef →
          exec (.zeroOutcome a) s = .next { s with
            bus := { taken with raises := s.bus.raises ++ [⟨.axe a, .referenceUnsure, a.val, 1, 0⟩] }
            axes := zeroIs .waiting })
        ∧ (∀ pRef tRef, result = .bracket pRef false tRef → x.ctx.state = .lost →
          exec (.zeroOutcome a) s = .next { s with
            bus := { taken with raises := s.bus.raises ++ [⟨.axe a, .referenceUnsure, a.val, 2, 0⟩] }
            axes := zeroIs .waiting })
        ∧ ∀ pRef tRef, result = .bracket pRef false tRef → x.ctx.counting = true →
          ∃ t, exec (.zeroOutcome a) s = .next t
            ∧ (t.axes[a]).ctx = { x.ctx with
                state := .referenced, zero := .none, refKind := .zero, zeroShift := pRef, markTime := tRef
                refTime := s.cpt.observed, offset := x.settings.refPosition
                xRef := appliedOf s x.settings.group
                count := max (-140737488355327) (min 140737488355327 (x.ctx.count - pRef))
                ring := (t.axes[a]).ctx.ring }
            ∧ (t.axes[a]).ctx.ring.map (fun h => (h.time, h.count, h.slip)) = x.ctx.ring.map (fun h =>
                (h.time, max (-140737488355327) (min 140737488355327 (h.count - pRef)), h.slip))
            ∧ (t.axes[a]).ctx.ring = flagReferenced (x.ctx.ring.map fun h =>
                { h with count := max (-140737488355327) (min 140737488355327 (h.count - pRef)) })
            ∧ t.bus.raises = s.bus.raises ++ (if within48 (x.ctx.count - pRef) = true
                ∧ ∀ h ∈ x.ctx.ring, within48 (h.count - pRef) = true then []
              else [⟨.axe a, .positionSaturated, a.val, 5, 0⟩])
            ∧ t = { s with
                axes := s.axes.set a.val { x with ctx := (t.axes[a]).ctx } a.isLt
                bus := { taken with
                  raises := t.bus.raises, sources := s.bus.sources ++ [⟨.axe a, .operationEnded⟩] } })

/-- A zero sets the referenced flag of the newest slip-flagged entry and of every newer one, or of every entry when none
is slip-flagged; older entries keep their flags, and nothing else of the ring changes (R109). -/
def Obligations.ZeroFlagsTheRunSinceTheLastSlip : Prop :=
  ∀ ring : List HistEntry, (flagReferenced ring).length = ring.length
    ∧ ∀ (i : Nat) (h : HistEntry), ring[i]? = some h →
      let newer : Prop := ∃ j x, i < j ∧ ring[j]? = some x ∧ x.slip = true
      (newer → (flagReferenced ring)[i]? = some h)
      ∧ (¬newer → (flagReferenced ring)[i]? = some { h with referenced := true })

/-! ### The events of SCU and CAP -/

/-- A received value out of range becomes the nearer end of the range, and ENV_CLAMPED is raised with the value as
received. A value in range for a group with no slew limit, or within it, becomes the applied value and clears the stale
flag; every value replaces the last received value, also one equal to the applied value (log 41); beyond the slew limit
the applied value moves by the limit toward it and ENV_CLAMPED is raised with the difference; a value out of range that
then lies beyond the slew limit raises both, in this order (R85). At an advance past its deadline a group that is not
stale goes stale and raises ENV_STALE with the applied value, which it holds, group 0 first (R86; the order of the
groups is the model's, log 33). -/
def Obligations.AirValuesAreAppliedUnderTheSlewLimit : Prop :=
  (∀ (s : State) (g : GroupId) (v : Int) (rest : List EnvMsg), s.bus.envValues = ⟨g, v⟩ :: rest → isExcess v →
    let x := s.scu.groups[g]
    let after (applied : Int) : Scu := { s.scu with groups := s.scu.groups.set g.val { x with
      lastValue := v, lastTime := s.cpt.observed, applied := applied, stale := false } g.isLt }
    (x.slewLimit = 0 ∨ |v - x.applied| ≤ x.slewLimit →
      exec .envValue s = .next { s with scu := after v, bus := { s.bus with envValues := rest } })
    ∧ (x.slewLimit ≠ 0 → (x.slewLimit : Int) < |v - x.applied| →
      exec .envValue s = .next { s with
        scu := after (if x.applied < v then x.applied + x.slewLimit else x.applied - x.slewLimit)
        bus := { s.bus with
          envValues := rest
          raises := s.bus.raises ++ [⟨.scu, .envClamped, g.val, BitVec.ofInt 32 (v - x.applied), 0⟩] } }))
  ∧ (∀ (s : State) (g : GroupId) (v : Int) (rest : List EnvMsg), s.bus.envValues = ⟨g, v⟩ :: rest → ¬isExcess v →
    (s.scu.groups[g]).slewLimit = 0 →
    let nearer : Int := if 0 < v then 1000000 else -1000000
    exec .envValue s = .next { s with
      scu := { s.scu with groups := s.scu.groups.set g.val { s.scu.groups[g] with
        lastValue := nearer, lastTime := s.cpt.observed, applied := nearer, stale := false } g.isLt }
      bus := { s.bus with
        envValues := rest, raises := s.bus.raises ++ [⟨.scu, .envClamped, g.val, BitVec.ofInt 32 v, 0⟩] } })
  ∧ (∀ (s : State) (g : GroupId) (v : Int) (rest : List EnvMsg), s.bus.envValues = ⟨g, v⟩ :: rest → ¬isExcess v →
    let x := s.scu.groups[g]
    let nearer : Int := if 0 < v then 1000000 else -1000000
    let beyond : Prop := x.slewLimit ≠ 0 ∧ (x.slewLimit : Int) < |nearer - x.applied|
    exec .envValue s = .next { s with
      scu := { s.scu with groups := s.scu.groups.set g.val { x with
        lastValue := nearer, lastTime := s.cpt.observed, stale := false
        applied := if ¬beyond then nearer
          else if x.applied < nearer then x.applied + x.slewLimit else x.applied - x.slewLimit } g.isLt }
      bus := { s.bus with
        envValues := rest
        raises := s.bus.raises ++ ⟨.scu, .envClamped, g.val, BitVec.ofInt 32 v, 0⟩
          :: if beyond then [⟨.scu, .envClamped, g.val, BitVec.ofInt 32 (nearer - x.applied), 0⟩] else [] } })
  ∧ ∀ (s : State) (time : Time) (rest : List Time), s.bus.scuAdvances = time :: rest →
    let due (g : GroupId) : Bool :=
      !(s.scu.groups[g]).stale && later time (after (s.scu.groups[g]).lastTime (s.scu.groups[g]).staleLimit)
    exec .groupStale s = .next { s with
      scu := { s.scu with groups := Vector.ofFn (fun g =>
        if due g then { s.scu.groups[g] with stale := true } else s.scu.groups[g]) }
      bus := { s.bus with
        scuAdvances := rest
        raises := s.bus.raises ++ (((List.finRange 4).filter due).map fun g =>
          ⟨.scu, .envStale, g.val, BitVec.ofInt 32 (s.scu.groups[g]).applied, 0⟩) } }

/-- The oldest marker event is taken: an edge trigger, or a reference event whose axis CAP finds with zero state NONE,
is ignored with an empty mask or in STOPPED, counted in HALTED, and in ARMED taken with a record request; a reference
event whose axis is WAITING places a zero-resolution entry, with a record request only in ARMED with a mask, and tells
the engine; with 16 entries in the list a trigger is dropped with PENDING_FULL (R104, R133, R138). After CAP has taken a
RESTART it finds every axis with NONE (R147). A trigger that is taken makes an entry as R137 says, with copies of the
composites its mask or its window axis names, waiting for every raw axis that the mask, the window axis, the zero mark
or a copied composite names; in the same event its fields are tested, its composites resolved, and what is left times
out if its deadline is passed; a complete entry leaves as completeEntry says, and another joins the end of the list
(R95, R137, R138; an UNUSED composite's field is OFF from the start, log 22; the numbers of entries and armings are the
model's, log 23; the raw fields are tested in ascending order, log 30; composites are resolved after them, in ascending
order, log 43; the deadline is tested by the link time that stands, also while the chain is down, log 44). -/
def Obligations.TriggersFollowTheCaptureState : Prop :=
  (∀ (s : State) (m : MarkerMsg) (rest : List MarkerMsg), s.bus.markers = m :: rest →
    let source : SourceId := ⟨m.source.val, by omega⟩
    let mask := (s.cap.map[source]).mask
    let taken : State := { s with bus := { s.bus with markers := rest } }
    let record : Bool := decide (s.cap.state = .armed ∧ mask ≠ 0)
    let unseen (a : AxisId) : Prop := .axe a ∈ s.mga.restartLeft ∧ .cap ∉ s.mga.restartLeft
    (m.reference = none →
      (mask = 0 ∨ s.cap.state = .stopped → exec .edgeTrigger s = .next taken)
      ∧ (mask ≠ 0 → s.cap.state = .halted →
        exec .edgeTrigger s = .next { taken with bus := { taken.bus with
          reports := s.bus.reports ++ [⟨.cap, .triggersDropped, 0⟩] } })
      ∧ (mask ≠ 0 → s.cap.state = .armed → 16 ≤ s.cap.entries.length →
        exec .edgeTrigger s = .next { taken with bus := { taken.bus with
          raises := s.bus.raises ++ [⟨.cap, .pendingFull, m.source.val, 0, 0⟩]
          reports := s.bus.reports ++ [⟨.cap, .triggersDropped, 0⟩] } }))
    ∧ (m.reference = none → mask ≠ 0 → s.cap.state = .armed →
      exec .edgeTrigger s = .next (takeTrigger ⟨.edge, source, m.polarity, m.time⟩ true none taken))
    ∧ (∀ a : AxisId, m.reference = some a → ((s.axes[a]).ctx.zero ≠ .waiting ∨ unseen a) →
      (mask = 0 ∨ s.cap.state = .stopped → exec .referenceEvent s = .next taken)
      ∧ (mask ≠ 0 → s.cap.state = .halted →
        exec .referenceEvent s = .next { taken with bus := { taken.bus with
          reports := s.bus.reports ++ [⟨.cap, .triggersDropped, 0⟩] } })
      ∧ (mask ≠ 0 → s.cap.state = .armed →
        exec .referenceEvent s = .next (takeTrigger ⟨.reference, source, m.polarity, m.time⟩ true none taken)))
    ∧ (∀ a : AxisId, m.reference = some a → (s.axes[a]).ctx.zero = .waiting → ¬unseen a → s.cap.entries.length < 16 →
      exec .referenceEvent s = .next (takeTrigger ⟨.reference, source, m.polarity, m.time⟩ record (some a) { taken with
        bus := { taken.bus with
          zeroMsgs := s.bus.zeroMsgs.set a.val
            (s.bus.zeroMsgs[a] ++ [.placed s.cap.nextId (s.axes[a]).arming]) a.isLt } }))
    ∧ ∀ a : AxisId, m.reference = some a → (s.axes[a]).ctx.zero = .waiting → ¬unseen a →
      (16 ≤ s.cap.entries.length →
        exec .referenceEvent s = .next { taken with bus := { taken.bus with
          raises := s.bus.raises ++ [⟨.cap, .pendingFull, m.source.val, 1, 0⟩]
          reports := s.bus.reports ++ [⟨.cap, .triggersDropped, 0⟩] } })
      ∧ (s.cap.entries.length < 16 → (s.cap.state ≠ .armed ∨ mask = 0) → (s.axes[a]).ctx.counting = true →
        (s.axes[a]).ctx.ring ≠ [] → (∀ h ∈ (s.axes[a]).ctx.ring, later m.time h.time = true) →
        (∀ h ∈ (s.axes[a]).ctx.ring, later h.time m.time = false) →
        later s.cpt.observed (after m.time s.cap.timeout) = false →
        exec .referenceEvent s = .next { taken with
          cap := { s.cap with
            nextId := s.cap.nextId + 1
            entries := s.cap.entries ++ [
              { id := s.cap.nextId, kind := .reference, source := source, polarity := m.polarity, time := m.time
                record := false, mask := 0, gated := (s.cap.map[source]).gated, zeroMark := some a
                windowAxis := none, copies := Vector.replicate 4 none
                raw := (Vector.replicate 6 none).set a.val (some .waiting) a.isLt
                composite := Vector.replicate 4 none }] }
          bus := { taken.bus with
            zeroMsgs := (s.bus.zeroMsgs.set a.val
              (s.bus.zeroMsgs[a] ++ [.placed s.cap.nextId (s.axes[a]).arming]) a.isLt) } }))
  ∧ ∀ (s : State) (kind : TriggerKind) (source : SourceId) (polarity : Polarity) (time : Time) (record : Bool)
      (zero : Option AxisId),
    let t : Trigger := ⟨kind, source, polarity, time⟩
    (16 ≤ s.cap.entries.length →
      takeTrigger t record zero s = { s with bus := { s.bus with
        raises := s.bus.raises ++ [⟨.cap, .pendingFull, source.val, BitVec.ofNat 32 kind.code, 0⟩]
        reports := s.bus.reports ++ [⟨.cap, .triggersDropped, 0⟩] } })
    ∧ (s.cap.entries.length < 16 →
      let mapped := s.cap.map[source]
      let mask : BitVec 10 := if record then mapped.mask else 0
      let window : Option (Fin 10) := if kind = .edge ∧ mapped.gated = true then some s.cap.header.axis else none
      let copied (c : Fin 4) : Prop := mask.getLsbD (6 + c.val) = true ∨ ∃ x ∈ window, x.val = 6 + c.val
      let uses (k : CompositeEntry) (a : AxisId) : Prop := match k with
        | .unused => False
        | .weighted x y _ _ _ => x = a ∨ y = a
        | .diffRatio x y _ => x = a ∨ y = a
      let awaited (a : AxisId) : Prop := mask.getLsbD a.val = true ∨ (∃ x ∈ window, x.val = a.val) ∨ zero = some a
        ∨ ∃ c : Fin 4, copied c ∧ uses s.scu.composites[c] a
      ∃ e : Entry,
        (e.id = s.cap.nextId ∧ e.kind = kind ∧ e.source = source ∧ e.polarity = polarity ∧ e.time = time
          ∧ e.record = record ∧ e.mask = mask ∧ e.gated = mapped.gated ∧ e.zeroMark = zero ∧ e.windowAxis = window)
        ∧ (∀ c : Fin 4, (copied c → e.copies[c] = some s.scu.composites[c]
              ∧ e.composite[c] = some (if s.scu.composites[c] = .unused then .absent .off else .waiting))
            ∧ (¬copied c → e.copies[c] = none ∧ e.composite[c] = none))
        ∧ (∀ a : AxisId, (awaited a → e.raw[a] = some .waiting) ∧ (¬awaited a → e.raw[a] = none))
        ∧ (let noted : State := { s with
            cap := { s.cap with nextId := s.cap.nextId + 1 }
            bus := { s.bus with reports := s.bus.reports ++ if record then [⟨.cap, .triggersTaken, 0⟩] else [] } }
          let w := allAxes.foldl (fun (w : State × Entry) a => testRaw a w.1 w.2) (noted, e)
          let u := w.1.raised w.2.saturations
          let d := w.2.settled
          let passed := later s.cpt.observed (after time s.cap.timeout)
          let late (d : Entry) : List RaiseMsg := (allAxes.filter fun a => d.raw[a] = some .waiting).map fun a =>
            ⟨.cap, .captureTimeout, a.val, BitVec.ofNat 32 source.val, 0⟩
          let gone : Entry := { d with raw := d.raw.map fun f => if f = some .waiting then some (.absent .timeout) else f }
          let told : State := match zero with
            | some a =>
                if d.raw[a] = some .waiting then
                  { u with bus := { u.bus with
                    zeroMsgs := u.bus.zeroMsgs.set a.val (u.bus.zeroMsgs[a] ++ [.outcome e.id .timeout]) a.isLt } }
                else u
            | none => u
          let v : State := if passed then told.raised (late d ++ gone.saturations) else u
          let g : Entry := if passed then gone.settled else d
          takeTrigger t record zero s =
            if g.complete then completeEntry v g
            else { v with cap := { v.cap with entries := v.cap.entries ++ [g] } }))

/-- A marker event of an ungated EDGE source whose mask names one raw axis, in ARMED, with a bracket in the axis's ring
(R72; some 2^47 ticks away the model's reading, logs 31 and 35): the entry completes in the event that takes it and
hands RQU a record with the axis's status and position at the event time, zone tag 255 and UNGATED clear, and with the
taint that FMN answers; the pending list is what it was (R133, R138 to R140, R144, R145). Every entry that completes
with a record request reports one event, and hands RQU its record with the status and value of each axis of its mask,
ascending, ENV_STALE of those axes, and FMN's taint; a gated one is gated by the value of its copied window axis, and
without that value passes on UNGATED (R144, R145, R153). FMN answers yes while some kind is flagged with its taint
switch on; the tainting raises on their way are taken by it, with all that R190 says, before the query or after it, so
that the record completed next is tainted (R194; which of the two is open, log 5; that those of different blocks are
taken in the order they were handed over is the model's choice, log 45). -/
def Obligations.BracketedEdgesBecomeRecordsAtOnce : Prop :=
  (∀ (s : State) (m : MarkerMsg) (rest : List MarkerMsg) (a : AxisId) (h0 h1 : HistEntry),
    s.bus.markers = m :: rest → m.reference = none → s.cap.state = .armed → s.cap.entries.length < 16 →
    let source : SourceId := ⟨m.source.val, by omega⟩
    s.cap.map[source] = { mask := 1#10 <<< a.val, gated := false } →
    bracketBefore (s.axes[a]).ctx.ring m.time = some h0 → bracketAfter (s.axes[a]).ctx.ring m.time = some h1 →
    let applied := appliedOf s (s.axes[a]).settings.group
    let sum := rawPosition s.axes[a] (interpolate h0 h1 m.time) applied
    let status : FieldStatus := if h1.slip then .unsure else if h0.referenced && h1.referenced then .ok else .relative
    let raises : List RaiseMsg := if within48 sum = true then s.bus.raises
      else s.bus.raises ++ [⟨.scu, .positionSaturated, a.val, if 0 < sum then 3 else 4, 0⟩]
    let onTheWay : Prop := ∃ x ∈ raises, (s.fmn.routes[x.kind.index]).taint = true
    ∃ t, exec .edgeTrigger s = .next t
      ∧ t.cap = { s.cap with nextId := s.cap.nextId + 1 }
      ∧ t.bus.records = s.bus.records ++ [
          { kind := .edge, source := source, polarity := m.polarity, zone := 255, time := m.time
            taint := taintFlagged s.fmn || (decide onTheWay && Config.raiseTakenFirst s.freeIndex)
            ungated := false
            envStale := match (s.axes[a]).settings.group with
              | some g => (s.scu.groups[g]).stale
              | none => false
            fields := [⟨a.val, status, max (-140737488355327) (min 140737488355327 sum)⟩] }]
      ∧ t.bus.reports = s.bus.reports ++ [⟨.cap, .triggersTaken, 0⟩, ⟨.cap, .entriesCompleted, 0⟩]
      ∧ (¬onTheWay → t.bus.raises = raises ∧ t.fmn = s.fmn ∧ t.bus.halts = s.bus.halts)
      ∧ (onTheWay → taintFlagged t.fmn = true ∧ t.bus.raises.Sublist raises
          ∧ ∀ x ∈ t.bus.raises, (s.fmn.routes[x.kind.index]).taint = false)
      ∧ t = { s with
          cap := t.cap, freeIndex := s.freeIndex + 1
          fmn := { s.fmn with flags := t.fmn.flags, counts := t.fmn.counts, first := t.fmn.first }
          bus := { s.bus with
            markers := rest, records := t.bus.records, reports := t.bus.reports, raises := t.bus.raises
            halts := t.bus.halts } })
  ∧ (∀ (s : State) (e : Entry), e.record = false → completeEntry s e = s)
  ∧ (∀ (s : State) (e : Entry), e.record = true →
    let named : List (Fin 10) := (List.finRange 10).filter fun x => e.mask.getLsbD x.val
    let r : Record :=
      { kind := e.kind, source := e.source, polarity := e.polarity, zone := 255, time := e.time
        taint := taintFlagged s.fmn
          || (s.bus.raises.any (fun x => (s.fmn.routes[x.kind.index]).taint) && Config.raiseTakenFirst s.freeIndex)
        ungated := false
        envStale := named.any fun x => match e.field x with
          | some (.value _ _ stale) => stale
          | _ => false
        fields := named.map fun x => match e.field x with
          | some (.value status position _) => ⟨x.val, status, position⟩
          | some (.absent status) => ⟨x.val, status, 0⟩
          | _ => ⟨x.val, .off, 0⟩ }
    let noted : State := { s with bus := { s.bus with
      reports := s.bus.reports ++ [⟨.cap, .entriesCompleted, 0⟩] } }
    let u := noted.afterQuery
    let handed (r : Record) : State := { u with bus := { u.bus with records := u.bus.records ++ [r] } }
    (e.windowAxis = none → completeEntry s e = handed r)
    ∧ ∀ (x : Fin 10) (source : Fin 8), e.windowAxis = some x → e.source.val = source.val →
      (∀ status v stale, e.field x = some (.value status v stale) → completeEntry s e = gateRecord source v r u)
      ∧ ((∀ status v stale, e.field x ≠ some (.value status v stale)) →
        completeEntry s e = handed { r with ungated := true }))
  ∧ (∀ s : State,
    let t := s.afterQuery
    let tainting (x : RaiseMsg) : Prop := (s.fmn.routes[x.kind.index]).taint = true
    ((∀ x ∈ s.bus.raises, ¬tainting x) → t = { s with freeIndex := s.freeIndex + 1 })
    ∧ (∀ i : Fin 23, s.fmn.flags[i] = true → t.fmn.flags[i] = true)
    ∧ (∀ i : Fin 23, t.fmn.flags[i] = true → s.fmn.flags[i] = true
        ∨ ∃ x ∈ s.bus.raises, x.kind.index = i ∧ ∃ y ∈ s.bus.raises, tainting y ∧ x.source = y.source)
    ∧ (∀ x ∈ s.bus.raises, tainting x → t.fmn.flags[x.kind.index] = true)
    ∧ (∀ x, s.bus.raises = [x] → tainting x →
        let i := x.kind.index
        t = { s with
          freeIndex := s.freeIndex + 1
          fmn := { s.fmn with
            flags := s.fmn.flags.set i.val true i.isLt
            counts := s.fmn.counts.set i.val (min 255 (s.fmn.counts[i] + (x.more + 1))) i.isLt
            first := if s.fmn.first = none then some ⟨x.kind, x.subject, s.cpt.observed, x.detail⟩ else s.fmn.first }
          bus := { s.bus with
            raises := []
            halts := if (s.fmn.routes[i]).halt then s.bus.halts + (x.more + 1) else s.bus.halts } })
    ∧ t.bus.raises.Sublist s.bus.raises ∧ (∀ x ∈ t.bus.raises, ¬tainting x)
    ∧ t = { s with
        freeIndex := s.freeIndex + 1
        fmn := { s.fmn with flags := t.fmn.flags, counts := t.fmn.counts, first := t.fmn.first }
        bus := { s.bus with halts := t.bus.halts, raises := t.bus.raises } })
  ∧ ∀ g : Fmn, taintFlagged g = true ↔ ∃ i : Fin 23, g.flags[i] = true ∧ (g.routes[i]).taint = true

/-- Gating of an edge record with the window value v: the first test of R154 that holds decides; an accepted record
takes the window's zone tag and v becomes its source's last-edge position; a discarded one reports its reason and is
handed to nobody (R152, R154, R155). A record whose entry was taken before a halt and completed after the ARM is tested
for a double like any other: R154 to R156 are followed there over the last sentence of R157 (log 39). -/
def Obligations.GatingDecidesByTheFirstTest : Prop :=
  ∀ (s : State) (source : Fin 8) (v : Int) (r : Record) (i : Fin 32),
    let lower (j : Nat) : Int := if j = 0 then s.cap.header.base else (s.cap.windows.toList.map (·.limit)).getD (j - 1) 0
    let holds (j : Fin 32) : Prop := j.val < s.cap.header.valid ∧ lower j.val ≤ v ∧ v < (s.cap.windows[j]).limit
    let w := s.cap.windows[i]
    let reported (e : Event) : State := { s with bus := { s.bus with reports := s.bus.reports ++ [⟨.cap, e, 0⟩] } }
    let wrong : Prop := w.sources.getLsbD source.val = false ∨ (w.polarity = .rise ∧ r.polarity = .fall)
      ∨ (w.polarity = .fall ∧ r.polarity = .rise)
    let double : Prop := w.spacing ≠ 0 ∧ ∃ last ∈ s.cap.lastEdge[source], |v - last| < w.spacing
    ((∀ j, ¬holds j) → gateRecord source v r s = reported .outsideWindow)
    ∧ (holds i → (∀ j, j < i → ¬holds j) →
      (w.gap = true → gateRecord source v r s = reported .gapWindow)
      ∧ (w.gap = false → wrong → gateRecord source v r s = reported .masked)
      ∧ (w.gap = false → ¬wrong → double → gateRecord source v r s = reported .doubleEdges)
      ∧ (w.gap = false → ¬wrong → ¬double → gateRecord source v r s = { s with
          cap := { s.cap with lastEdge := s.cap.lastEdge.set source.val (some v) source.isLt }
          bus := { s.bus with records := s.bus.records ++ [{ r with zone := w.zone }] } }))

/-- At an advance, every listed entry whose deadline is passed has each of its waiting raw fields resolve TIMEOUT, with
one CAPTURE_TIMEOUT for each, its axis the subject and its trigger source the detail (also in an entry unmarked by ZERO
CANCEL, log 42), and a zero's engine told; its composites are then resolved (several of them raise POSITION_SATURATED in
ascending order, after the raises of the raw fields, log 43), and it leaves the list, complete, as a record or without
one, in list order, one entry's record made before the next entry times out (log 30); every other entry stays as it is,
in its place (R105, R141, R143 to R145). The advance then waits for the compare slots, the model's division of one
advance (log 10). Nothing of the axes, the slots or the queue changes. -/
def Obligations.CaptureTimeoutsResolvePassedEntries : Prop :=
  ∀ (s : State) (time : Time) (rest : List Time), s.bus.capAdvances = time :: rest → s.entriesUnresolved →
    let passed (e : Entry) : Bool := later time (after e.time s.cap.timeout)
    let timedOut (e : Entry) : Entry :=
      { e with raw := e.raw.map fun f => if f = some .waiting then some (.absent .timeout) else f }
    let late (e : Entry) : List RaiseMsg := (allAxes.filter fun a => e.raw[a] = some .waiting).map fun a =>
      ⟨.cap, .captureTimeout, a.val, BitVec.ofNat 32 e.source.val, 0⟩
    let told (u : State) (e : Entry) : State := match e.zeroMark with
      | some a =>
          if e.raw[a] = some .waiting then
            { u with bus := { u.bus with
              zeroMsgs := u.bus.zeroMsgs.set a.val (u.bus.zeroMsgs[a] ++ [.outcome e.id .timeout]) a.isLt } }
          else u
      | none => u
    let finished (u : State) (e : Entry) : State :=
      completeEntry ((told u e).raised (late e ++ (timedOut e).saturations)) (timedOut e).settled
    let start : State := { s with bus := { s.bus with
      capAdvances := rest, slotChecks := s.bus.slotChecks ++ [time] } }
    let t := (s.cap.entries.filter passed).foldl finished start
    exec .captureTimeout s = .next { t with
        cap := { t.cap with entries := s.cap.entries.filter fun e => !passed e } }
      ∧ (∀ e ∈ s.cap.entries, (timedOut e).settled.complete = true)
      ∧ t = { s with
          freeIndex := t.freeIndex
          cap := { s.cap with lastEdge := t.cap.lastEdge }
          fmn := { s.fmn with flags := t.fmn.flags, counts := t.fmn.counts, first := t.fmn.first }
          bus := { start.bus with
            zeroMsgs := t.bus.zeroMsgs, halts := t.bus.halts
            records := t.bus.records, raises := t.bus.raises, reports := t.bus.reports } }

/-- In every capture state an advance fires each enabled slot whose next time is not later, slot 0 first: a one-shot
slot is disabled at its time; a periodic one moves to the first time of its schedule later than the link time. Each
firing reports one "compare fires" event, offers a TIMED trigger of its slot at the slot's time, which is taken in ARMED
with a mask, and raises COMPARE_MISSED once for each firing it skipped, with their number as the detail (above 2^32 − 1
a free value, log 38). Where no firing becomes a trigger, because capture is not ARMED or the slot's mask is empty,
nothing else changes, but in HALTED with a mask it is counted as dropped (R131, R133; at a next time equal to the link
time the two rules' reading is the model's, log 32; one advance is divided as in log 10). A halt report moves ARMED to
HALTED and changes nothing else (R136). -/
def Obligations.CompareSlotsFireAndHaltsStop : Prop :=
  (∀ (s : State) (time : Time) (rest : List Time), s.bus.slotChecks = time :: rest →
    let fires (j : Fin 4) : Bool := (s.cap.slots[j]).enable && !later (s.cap.slots[j]).next time
    let skipped (j : Fin 4) : Nat := if (s.cap.slots[j]).period = 0 then 0
      else (time - (s.cap.slots[j]).next).toNat / (s.cap.slots[j]).period
    let detail (m : Nat) : BitVec 32 := if m ≤ 4294967295 then BitVec.ofNat 32 m else Config.wideMissed m
    let moved (x : CompareSlot) : CompareSlot := if x.period = 0 then { x with enable := false }
      else { x with next := after x.next (((time - x.next).toNat / x.period + 1) * x.period) }
    let countedAt (j : Fin 4) : Bool := s.cap.state == .halted
      && (s.cap.map[(⟨8 + j.val, by omega⟩ : SourceId)]).mask != 0
    let firing : List (Fin 4) := (List.finRange 4).filter fires
    let reports : List ReportMsg := firing.flatMap fun j => ⟨.cap, .compareFires, 0⟩
      :: (if countedAt j then [⟨.cap, .triggersDropped, 0⟩] else [])
    let raises : List RaiseMsg := firing.flatMap fun j => if skipped j = 0 then []
      else [⟨.cap, .compareMissed, 8 + j.val, detail (skipped j), skipped j - 1⟩]
    let slots : Vector CompareSlot 4 := Vector.ofFn fun j => if fires j then moved s.cap.slots[j] else s.cap.slots[j]
    let source (j : Fin 4) : SourceId := ⟨8 + j.val, by omega⟩
    let fired (u : State) (j : Fin 4) : State :=
      let v : State := { u with bus := { u.bus with reports := u.bus.reports ++ [⟨.cap, .compareFires, 0⟩] } }
      let w : State :=
        if s.cap.state = .armed ∧ (s.cap.map[source j]).mask ≠ 0 then
          takeTrigger ⟨.timed, source j, .none, (s.cap.slots[j]).next⟩ true none v
        else if countedAt j then
          { v with bus := { v.bus with reports := v.bus.reports ++ [⟨.cap, .triggersDropped, 0⟩] } }
        else v
      { w with
        cap := { w.cap with slots := w.cap.slots.set j.val (moved s.cap.slots[j]) j.isLt }
        bus := { w.bus with raises := w.bus.raises ++ if skipped j = 0 then []
          else [⟨.cap, .compareMissed, 8 + j.val, detail (skipped j), skipped j - 1⟩] } }
    exec .compareFire s = .next (firing.foldl fired { s with bus := { s.bus with slotChecks := rest } })
    ∧ (∃ t, exec .compareFire s = .next t ∧ t.cap.slots = slots ∧ t.bus.slotChecks = rest ∧ t.cap.state = s.cap.state)
    ∧ (s.cap.state ≠ .armed ∨ (∀ j, fires j = true → (s.cap.map[(⟨8 + j.val, by omega⟩ : SourceId)]).mask = 0) →
      exec .compareFire s = .next { s with
        cap := { s.cap with slots := slots }
        bus := { s.bus with
          slotChecks := rest, reports := s.bus.reports ++ reports, raises := s.bus.raises ++ raises } }))
  ∧ ∀ s : State, 0 < s.bus.halts → exec .halt s = .next { s with
      cap := { s.cap with state := if s.cap.state = .armed then .halted else s.cap.state }
      bus := { s.bus with halts := s.bus.halts - 1 } }

/-! ### The events of RQU and FMN -/

/-- A record handed over with room takes the sequence counter's number and joins the newest end, raising QUEUE_WATERMARK
at the crossing; at 128 records DROP_NEWEST discards it and DROP_OLDEST the oldest, the drop counter goes up by 1 to
65535 at most, and QUEUE_OVERFLOW is raised for the lost record's source with the policy and the drop counter (R160 to
R162, R171). The flush age is due exactly when the queue is not empty, the interval is not 0 and the observed link time
is later than the oldest record's trigger time plus the interval. An advance examines it, and so does a change of the
oldest record (R166; with the chain down or no link time the model's reading, log 36). -/
def Obligations.RecordsAreQueuedOrDropped : Prop :=
  (∀ (s : State) (r : Record) (rest : List Record), s.bus.records = r :: rest →
    let next : QueuedRecord := ⟨s.rqu.sequence, r⟩
    let drops := min 65535 (s.rqu.drops + 1)
    let overflow (source : SourceId) (policy : Nat) : List RaiseMsg :=
      [⟨.rqu, .queueOverflow, source.val, BitVec.ofNat 32 (policy * 65536 + drops), 0⟩]
    ∃ t, exec .recordQueued s = .next t
      ∧ (s.rqu.queue.length < 128 →
          t.rqu = { s.rqu with
            queue := s.rqu.queue ++ [next], sequence := (s.rqu.sequence + 1) % 65536, ageDue := t.rqu.ageDue }
          ∧ (s.rqu.queue = [] → t.rqu.ageDue = ageDueNow t) ∧ (s.rqu.queue ≠ [] → t.rqu.ageDue = s.rqu.ageDue)
          ∧ t.bus = { s.bus with
              records := rest, reports := s.bus.reports ++ [⟨.rqu, .recordsQueued, 0⟩]
              sources := s.bus.sources ++
                if s.rqu.queue.length + 1 = s.rqu.delivery.watermark then [⟨.rqu, .queueWatermark⟩] else [] })
      ∧ (128 ≤ s.rqu.queue.length → s.rqu.delivery.dropOldest = false →
          t.rqu = { s.rqu with drops := drops }
          ∧ t.bus = { s.bus with
              records := rest, reports := s.bus.reports ++ [⟨.rqu, .recordsDropped, 0⟩]
              raises := s.bus.raises ++ overflow r.source 0 })
      ∧ (∀ oldest others, 128 ≤ s.rqu.queue.length → s.rqu.delivery.dropOldest = true →
          s.rqu.queue = oldest :: others →
          t.rqu = { s.rqu with
            queue := others ++ [next], sequence := (s.rqu.sequence + 1) % 65536, drops := drops
            ageDue := t.rqu.ageDue }
          ∧ t.rqu.ageDue = ageDueNow t
          ∧ t.bus = { s.bus with
              records := rest
              reports := s.bus.reports ++ [⟨.rqu, .recordsDropped, 0⟩, ⟨.rqu, .recordsQueued, 0⟩]
              raises := s.bus.raises ++ overflow oldest.body.source 1 })
      ∧ t = { s with rqu := t.rqu, bus := t.bus, cpt := { s.cpt with fairness := t.cpt.fairness } }
      ∧ t.cpt.fairness = if insertWaiting t then s.cpt.fairness else 0)
  ∧ (∀ s : State, 0 < s.bus.rquAdvances →
    ∃ t, exec .flushAge s = .next t
      ∧ t = { s with
          rqu := { s.rqu with ageDue := ageDueNow s }
          bus := { s.bus with rquAdvances := s.bus.rquAdvances - 1 }
          cpt := { s.cpt with fairness := t.cpt.fairness } }
      ∧ t.cpt.fairness = if insertWaiting t then s.cpt.fairness else 0)
  ∧ ∀ s : State, ageDueNow s = true ↔ ∃ q rest, s.rqu.queue = q :: rest ∧ s.rqu.delivery.interval ≠ 0
    ∧ later s.cpt.observed (after q.body.time s.rqu.delivery.interval) = true

/-- FMN takes the oldest raise of a block, whatever other blocks' raises stand before it (either order, log 13), in the
four steps of R190: it sets the flag, counts it to 255 at most, fills an empty FIRST with the kind, the subject, the
observed link time and the detail, and reports a halt-routed kind to CAP; every other kind, counter and source is left
as it was. FMN takes the oldest event report of a block: it adds 1 to every counter that selects the event, to 2^32 − 1
at most (R197); and its oldest attention source: it is set or stays set, and attention is then pending. Attention is
pending exactly while a flagged kind has its attention switch on or a source is set, and ATTN is lit then (R195); LINK
is lit exactly while the part is assigned, a link time is established and the chain is not down (R22). -/
def Obligations.RaisesReportsAndSourcesAreTaken : Prop :=
  (∀ (s : State) (m : RaiseMsg) (front rest : List RaiseMsg), s.bus.raises = front ++ m :: rest →
    (∀ x ∈ front, x.source ≠ m.source) →
    let i := m.kind.index
    exec (.errorRaise m.source) s = .next { s with
      fmn := { s.fmn with
        flags := s.fmn.flags.set i.val true i.isLt
        counts := s.fmn.counts.set i.val (min 255 (s.fmn.counts[i] + 1)) i.isLt
        first := if s.fmn.first = none then some ⟨m.kind, m.subject, s.cpt.observed, m.detail⟩ else s.fmn.first }
      bus := { s.bus with
        raises := if m.more = 0 then front ++ rest else { m with more := m.more - 1 } :: (front ++ rest)
        halts := if (s.fmn.routes[i]).halt then s.bus.halts + 1 else s.bus.halts } })
  ∧ (∀ (s : State) (m : ReportMsg) (front rest : List ReportMsg), s.bus.reports = front ++ m :: rest →
    (∀ x ∈ front, x.source ≠ m.source) →
    ∃ t, exec (.eventReport m.source) s = .next t
      ∧ (∀ j : Fin 8, t.fmn.counters[j] = if s.fmn.selections[j] = m.event.number
          then min 4294967295 (s.fmn.counters[j] + 1) else s.fmn.counters[j])
      ∧ t = { s with
          fmn := { s.fmn with counters := t.fmn.counters }
          bus := { s.bus with
            reports := if m.more = 0 then front ++ rest else { m with more := m.more - 1 } :: (front ++ rest) } })
  ∧ (∀ (s : State) (m : SourceMsg) (front rest : List SourceMsg), s.bus.sources = front ++ m :: rest →
    (∀ x ∈ front, x.source ≠ m.source) →
    exec (.attentionSourceRaise m.source) s = .next { s with
      fmn := { s.fmn with
        operationEnded := s.fmn.operationEnded || m.which == .operationEnded
        queueWatermark := s.fmn.queueWatermark || m.which == .queueWatermark }
      bus := { s.bus with sources := front ++ rest } }
    ∧ ∀ t, exec (.attentionSourceRaise m.source) s = .next t → attentionPending t.fmn = true)
  ∧ (∀ f : Fmn, attentionPending f = true ↔
    (∃ i : Fin 23, f.flags[i] = true ∧ (f.routes[i]).attention = true) ∨ f.operationEnded = true
      ∨ f.queueWatermark = true)
  ∧ ∀ s : State, attnOutput s = attentionPending s.fmn
    ∧ (linkOutput s = true ↔ s.cpt.station ≠ 0 ∧ s.cpt.established = true ∧ s.cpt.down = false)
end

