-- ==== Sys2Proof/Laws/State.lean ====
section
/-! SUPPORT. One lemma per field per update of State: what each named update leaves in each field. -/

namespace Sys2Proof.Machine

variable (s : State)

@[simp] theorem State.modCpt_cpt (f : Cpt → Cpt) : (s.modCpt f).cpt = f s.cpt := rfl
@[simp] theorem State.modCpt_sfl (f : Cpt → Cpt) : (s.modCpt f).sfl = s.sfl := rfl
@[simp] theorem State.modCpt_axes (f : Cpt → Cpt) : (s.modCpt f).axes = s.axes := rfl
@[simp] theorem State.modCpt_scu (f : Cpt → Cpt) : (s.modCpt f).scu = s.scu := rfl
@[simp] theorem State.modCpt_cap (f : Cpt → Cpt) : (s.modCpt f).cap = s.cap := rfl
@[simp] theorem State.modCpt_rqu (f : Cpt → Cpt) : (s.modCpt f).rqu = s.rqu := rfl
@[simp] theorem State.modCpt_mga (f : Cpt → Cpt) : (s.modCpt f).mga = s.mga := rfl
@[simp] theorem State.modCpt_fmn (f : Cpt → Cpt) : (s.modCpt f).fmn = s.fmn := rfl
@[simp] theorem State.modCpt_bus (f : Cpt → Cpt) : (s.modCpt f).bus = s.bus := rfl
@[simp] theorem State.modCpt_freeIndex (f : Cpt → Cpt) : (s.modCpt f).freeIndex = s.freeIndex := rfl
@[simp] theorem State.modCpt_pending (f : Cpt → Cpt) : (s.modCpt f).pending = s.pending := rfl

@[simp] theorem State.modSfl_cpt (f : Sfl → Sfl) : (s.modSfl f).cpt = s.cpt := rfl
@[simp] theorem State.modSfl_sfl (f : Sfl → Sfl) : (s.modSfl f).sfl = f s.sfl := rfl
@[simp] theorem State.modSfl_axes (f : Sfl → Sfl) : (s.modSfl f).axes = s.axes := rfl
@[simp] theorem State.modSfl_scu (f : Sfl → Sfl) : (s.modSfl f).scu = s.scu := rfl
@[simp] theorem State.modSfl_cap (f : Sfl → Sfl) : (s.modSfl f).cap = s.cap := rfl
@[simp] theorem State.modSfl_rqu (f : Sfl → Sfl) : (s.modSfl f).rqu = s.rqu := rfl
@[simp] theorem State.modSfl_mga (f : Sfl → Sfl) : (s.modSfl f).mga = s.mga := rfl
@[simp] theorem State.modSfl_fmn (f : Sfl → Sfl) : (s.modSfl f).fmn = s.fmn := rfl
@[simp] theorem State.modSfl_bus (f : Sfl → Sfl) : (s.modSfl f).bus = s.bus := rfl
@[simp] theorem State.modSfl_freeIndex (f : Sfl → Sfl) : (s.modSfl f).freeIndex = s.freeIndex := rfl
@[simp] theorem State.modSfl_pending (f : Sfl → Sfl) : (s.modSfl f).pending = s.pending := rfl

@[simp] theorem State.modScu_cpt (f : Scu → Scu) : (s.modScu f).cpt = s.cpt := rfl
@[simp] theorem State.modScu_sfl (f : Scu → Scu) : (s.modScu f).sfl = s.sfl := rfl
@[simp] theorem State.modScu_axes (f : Scu → Scu) : (s.modScu f).axes = s.axes := rfl
@[simp] theorem State.modScu_scu (f : Scu → Scu) : (s.modScu f).scu = f s.scu := rfl
@[simp] theorem State.modScu_cap (f : Scu → Scu) : (s.modScu f).cap = s.cap := rfl
@[simp] theorem State.modScu_rqu (f : Scu → Scu) : (s.modScu f).rqu = s.rqu := rfl
@[simp] theorem State.modScu_mga (f : Scu → Scu) : (s.modScu f).mga = s.mga := rfl
@[simp] theorem State.modScu_fmn (f : Scu → Scu) : (s.modScu f).fmn = s.fmn := rfl
@[simp] theorem State.modScu_bus (f : Scu → Scu) : (s.modScu f).bus = s.bus := rfl
@[simp] theorem State.modScu_freeIndex (f : Scu → Scu) : (s.modScu f).freeIndex = s.freeIndex := rfl
@[simp] theorem State.modScu_pending (f : Scu → Scu) : (s.modScu f).pending = s.pending := rfl

@[simp] theorem State.modCap_cpt (f : Cap → Cap) : (s.modCap f).cpt = s.cpt := rfl
@[simp] theorem State.modCap_sfl (f : Cap → Cap) : (s.modCap f).sfl = s.sfl := rfl
@[simp] theorem State.modCap_axes (f : Cap → Cap) : (s.modCap f).axes = s.axes := rfl
@[simp] theorem State.modCap_scu (f : Cap → Cap) : (s.modCap f).scu = s.scu := rfl
@[simp] theorem State.modCap_cap (f : Cap → Cap) : (s.modCap f).cap = f s.cap := rfl
@[simp] theorem State.modCap_rqu (f : Cap → Cap) : (s.modCap f).rqu = s.rqu := rfl
@[simp] theorem State.modCap_mga (f : Cap → Cap) : (s.modCap f).mga = s.mga := rfl
@[simp] theorem State.modCap_fmn (f : Cap → Cap) : (s.modCap f).fmn = s.fmn := rfl
@[simp] theorem State.modCap_bus (f : Cap → Cap) : (s.modCap f).bus = s.bus := rfl
@[simp] theorem State.modCap_freeIndex (f : Cap → Cap) : (s.modCap f).freeIndex = s.freeIndex := rfl
@[simp] theorem State.modCap_pending (f : Cap → Cap) : (s.modCap f).pending = s.pending := rfl

@[simp] theorem State.modRqu_cpt (f : Rqu → Rqu) : (s.modRqu f).cpt = s.cpt := rfl
@[simp] theorem State.modRqu_sfl (f : Rqu → Rqu) : (s.modRqu f).sfl = s.sfl := rfl
@[simp] theorem State.modRqu_axes (f : Rqu → Rqu) : (s.modRqu f).axes = s.axes := rfl
@[simp] theorem State.modRqu_scu (f : Rqu → Rqu) : (s.modRqu f).scu = s.scu := rfl
@[simp] theorem State.modRqu_cap (f : Rqu → Rqu) : (s.modRqu f).cap = s.cap := rfl
@[simp] theorem State.modRqu_rqu (f : Rqu → Rqu) : (s.modRqu f).rqu = f s.rqu := rfl
@[simp] theorem State.modRqu_mga (f : Rqu → Rqu) : (s.modRqu f).mga = s.mga := rfl
@[simp] theorem State.modRqu_fmn (f : Rqu → Rqu) : (s.modRqu f).fmn = s.fmn := rfl
@[simp] theorem State.modRqu_bus (f : Rqu → Rqu) : (s.modRqu f).bus = s.bus := rfl
@[simp] theorem State.modRqu_freeIndex (f : Rqu → Rqu) : (s.modRqu f).freeIndex = s.freeIndex := rfl
@[simp] theorem State.modRqu_pending (f : Rqu → Rqu) : (s.modRqu f).pending = s.pending := rfl

@[simp] theorem State.modMga_cpt (f : Mga → Mga) : (s.modMga f).cpt = s.cpt := rfl
@[simp] theorem State.modMga_sfl (f : Mga → Mga) : (s.modMga f).sfl = s.sfl := rfl
@[simp] theorem State.modMga_axes (f : Mga → Mga) : (s.modMga f).axes = s.axes := rfl
@[simp] theorem State.modMga_scu (f : Mga → Mga) : (s.modMga f).scu = s.scu := rfl
@[simp] theorem State.modMga_cap (f : Mga → Mga) : (s.modMga f).cap = s.cap := rfl
@[simp] theorem State.modMga_rqu (f : Mga → Mga) : (s.modMga f).rqu = s.rqu := rfl
@[simp] theorem State.modMga_mga (f : Mga → Mga) : (s.modMga f).mga = f s.mga := rfl
@[simp] theorem State.modMga_fmn (f : Mga → Mga) : (s.modMga f).fmn = s.fmn := rfl
@[simp] theorem State.modMga_bus (f : Mga → Mga) : (s.modMga f).bus = s.bus := rfl
@[simp] theorem State.modMga_freeIndex (f : Mga → Mga) : (s.modMga f).freeIndex = s.freeIndex := rfl
@[simp] theorem State.modMga_pending (f : Mga → Mga) : (s.modMga f).pending = s.pending := rfl

@[simp] theorem State.modFmn_cpt (f : Fmn → Fmn) : (s.modFmn f).cpt = s.cpt := rfl
@[simp] theorem State.modFmn_sfl (f : Fmn → Fmn) : (s.modFmn f).sfl = s.sfl := rfl
@[simp] theorem State.modFmn_axes (f : Fmn → Fmn) : (s.modFmn f).axes = s.axes := rfl
@[simp] theorem State.modFmn_scu (f : Fmn → Fmn) : (s.modFmn f).scu = s.scu := rfl
@[simp] theorem State.modFmn_cap (f : Fmn → Fmn) : (s.modFmn f).cap = s.cap := rfl
@[simp] theorem State.modFmn_rqu (f : Fmn → Fmn) : (s.modFmn f).rqu = s.rqu := rfl
@[simp] theorem State.modFmn_mga (f : Fmn → Fmn) : (s.modFmn f).mga = s.mga := rfl
@[simp] theorem State.modFmn_fmn (f : Fmn → Fmn) : (s.modFmn f).fmn = f s.fmn := rfl
@[simp] theorem State.modFmn_bus (f : Fmn → Fmn) : (s.modFmn f).bus = s.bus := rfl
@[simp] theorem State.modFmn_freeIndex (f : Fmn → Fmn) : (s.modFmn f).freeIndex = s.freeIndex := rfl
@[simp] theorem State.modFmn_pending (f : Fmn → Fmn) : (s.modFmn f).pending = s.pending := rfl

@[simp] theorem State.modBus_cpt (f : Bus → Bus) : (s.modBus f).cpt = s.cpt := rfl
@[simp] theorem State.modBus_sfl (f : Bus → Bus) : (s.modBus f).sfl = s.sfl := rfl
@[simp] theorem State.modBus_axes (f : Bus → Bus) : (s.modBus f).axes = s.axes := rfl
@[simp] theorem State.modBus_scu (f : Bus → Bus) : (s.modBus f).scu = s.scu := rfl
@[simp] theorem State.modBus_cap (f : Bus → Bus) : (s.modBus f).cap = s.cap := rfl
@[simp] theorem State.modBus_rqu (f : Bus → Bus) : (s.modBus f).rqu = s.rqu := rfl
@[simp] theorem State.modBus_mga (f : Bus → Bus) : (s.modBus f).mga = s.mga := rfl
@[simp] theorem State.modBus_fmn (f : Bus → Bus) : (s.modBus f).fmn = s.fmn := rfl
@[simp] theorem State.modBus_bus (f : Bus → Bus) : (s.modBus f).bus = f s.bus := rfl
@[simp] theorem State.modBus_freeIndex (f : Bus → Bus) : (s.modBus f).freeIndex = s.freeIndex := rfl
@[simp] theorem State.modBus_pending (f : Bus → Bus) : (s.modBus f).pending = s.pending := rfl

@[simp] theorem State.modAxis_cpt (a : AxisId) (f : Axis → Axis) : (s.modAxis a f).cpt = s.cpt := rfl
@[simp] theorem State.modAxis_sfl (a : AxisId) (f : Axis → Axis) : (s.modAxis a f).sfl = s.sfl := rfl
@[simp] theorem State.modAxis_axes (a : AxisId) (f : Axis → Axis) : (s.modAxis a f).axes = modifyAt s.axes a f := rfl
@[simp] theorem State.modAxis_scu (a : AxisId) (f : Axis → Axis) : (s.modAxis a f).scu = s.scu := rfl
@[simp] theorem State.modAxis_cap (a : AxisId) (f : Axis → Axis) : (s.modAxis a f).cap = s.cap := rfl
@[simp] theorem State.modAxis_rqu (a : AxisId) (f : Axis → Axis) : (s.modAxis a f).rqu = s.rqu := rfl
@[simp] theorem State.modAxis_mga (a : AxisId) (f : Axis → Axis) : (s.modAxis a f).mga = s.mga := rfl
@[simp] theorem State.modAxis_fmn (a : AxisId) (f : Axis → Axis) : (s.modAxis a f).fmn = s.fmn := rfl
@[simp] theorem State.modAxis_bus (a : AxisId) (f : Axis → Axis) : (s.modAxis a f).bus = s.bus := rfl
@[simp] theorem State.modAxis_freeIndex (a : AxisId) (f : Axis → Axis) : (s.modAxis a f).freeIndex = s.freeIndex := rfl
@[simp] theorem State.modAxis_pending (a : AxisId) (f : Axis → Axis) : (s.modAxis a f).pending = s.pending := rfl

@[simp] theorem State.modCtx_cpt (a : AxisId) (f : AxisContext → AxisContext) : (s.modCtx a f).cpt = s.cpt := rfl
@[simp] theorem State.modCtx_sfl (a : AxisId) (f : AxisContext → AxisContext) : (s.modCtx a f).sfl = s.sfl := rfl
@[simp] theorem State.modCtx_axes (a : AxisId) (f : AxisContext → AxisContext) : (s.modCtx a f).axes = modifyAt s.axes a fun x => { x with ctx := f x.ctx } := rfl
@[simp] theorem State.modCtx_scu (a : AxisId) (f : AxisContext → AxisContext) : (s.modCtx a f).scu = s.scu := rfl
@[simp] theorem State.modCtx_cap (a : AxisId) (f : AxisContext → AxisContext) : (s.modCtx a f).cap = s.cap := rfl
@[simp] theorem State.modCtx_rqu (a : AxisId) (f : AxisContext → AxisContext) : (s.modCtx a f).rqu = s.rqu := rfl
@[simp] theorem State.modCtx_mga (a : AxisId) (f : AxisContext → AxisContext) : (s.modCtx a f).mga = s.mga := rfl
@[simp] theorem State.modCtx_fmn (a : AxisId) (f : AxisContext → AxisContext) : (s.modCtx a f).fmn = s.fmn := rfl
@[simp] theorem State.modCtx_bus (a : AxisId) (f : AxisContext → AxisContext) : (s.modCtx a f).bus = s.bus := rfl
@[simp] theorem State.modCtx_freeIndex (a : AxisId) (f : AxisContext → AxisContext) : (s.modCtx a f).freeIndex = s.freeIndex := rfl
@[simp] theorem State.modCtx_pending (a : AxisId) (f : AxisContext → AxisContext) : (s.modCtx a f).pending = s.pending := rfl

@[simp] theorem State.raise_cpt (b : Block) (k : ErrorKind) (n : Nat) (d : Int) : (s.raise b k n d).cpt = s.cpt := rfl
@[simp] theorem State.raise_sfl (b : Block) (k : ErrorKind) (n : Nat) (d : Int) : (s.raise b k n d).sfl = s.sfl := rfl
@[simp] theorem State.raise_axes (b : Block) (k : ErrorKind) (n : Nat) (d : Int) : (s.raise b k n d).axes = s.axes := rfl
@[simp] theorem State.raise_scu (b : Block) (k : ErrorKind) (n : Nat) (d : Int) : (s.raise b k n d).scu = s.scu := rfl
@[simp] theorem State.raise_cap (b : Block) (k : ErrorKind) (n : Nat) (d : Int) : (s.raise b k n d).cap = s.cap := rfl
@[simp] theorem State.raise_rqu (b : Block) (k : ErrorKind) (n : Nat) (d : Int) : (s.raise b k n d).rqu = s.rqu := rfl
@[simp] theorem State.raise_mga (b : Block) (k : ErrorKind) (n : Nat) (d : Int) : (s.raise b k n d).mga = s.mga := rfl
@[simp] theorem State.raise_fmn (b : Block) (k : ErrorKind) (n : Nat) (d : Int) : (s.raise b k n d).fmn = s.fmn := rfl
@[simp] theorem State.raise_freeIndex (b : Block) (k : ErrorKind) (n : Nat) (d : Int) : (s.raise b k n d).freeIndex = s.freeIndex := rfl
@[simp] theorem State.raise_pending (b : Block) (k : ErrorKind) (n : Nat) (d : Int) : (s.raise b k n d).pending = s.pending := rfl

@[simp] theorem State.report_cpt (b : Block) (e : Event) : (s.report b e).cpt = s.cpt := rfl
@[simp] theorem State.report_sfl (b : Block) (e : Event) : (s.report b e).sfl = s.sfl := rfl
@[simp] theorem State.report_axes (b : Block) (e : Event) : (s.report b e).axes = s.axes := rfl
@[simp] theorem State.report_scu (b : Block) (e : Event) : (s.report b e).scu = s.scu := rfl
@[simp] theorem State.report_cap (b : Block) (e : Event) : (s.report b e).cap = s.cap := rfl
@[simp] theorem State.report_rqu (b : Block) (e : Event) : (s.report b e).rqu = s.rqu := rfl
@[simp] theorem State.report_mga (b : Block) (e : Event) : (s.report b e).mga = s.mga := rfl
@[simp] theorem State.report_fmn (b : Block) (e : Event) : (s.report b e).fmn = s.fmn := rfl
@[simp] theorem State.report_freeIndex (b : Block) (e : Event) : (s.report b e).freeIndex = s.freeIndex := rfl
@[simp] theorem State.report_pending (b : Block) (e : Event) : (s.report b e).pending = s.pending := rfl

@[simp] theorem State.raiseSource_cpt (b : Block) (w : AttentionSource) : (s.raiseSource b w).cpt = s.cpt := rfl
@[simp] theorem State.raiseSource_sfl (b : Block) (w : AttentionSource) : (s.raiseSource b w).sfl = s.sfl := rfl
@[simp] theorem State.raiseSource_axes (b : Block) (w : AttentionSource) : (s.raiseSource b w).axes = s.axes := rfl
@[simp] theorem State.raiseSource_scu (b : Block) (w : AttentionSource) : (s.raiseSource b w).scu = s.scu := rfl
@[simp] theorem State.raiseSource_cap (b : Block) (w : AttentionSource) : (s.raiseSource b w).cap = s.cap := rfl
@[simp] theorem State.raiseSource_rqu (b : Block) (w : AttentionSource) : (s.raiseSource b w).rqu = s.rqu := rfl
@[simp] theorem State.raiseSource_mga (b : Block) (w : AttentionSource) : (s.raiseSource b w).mga = s.mga := rfl
@[simp] theorem State.raiseSource_fmn (b : Block) (w : AttentionSource) : (s.raiseSource b w).fmn = s.fmn := rfl
@[simp] theorem State.raiseSource_freeIndex (b : Block) (w : AttentionSource) : (s.raiseSource b w).freeIndex = s.freeIndex := rfl
@[simp] theorem State.raiseSource_pending (b : Block) (w : AttentionSource) : (s.raiseSource b w).pending = s.pending := rfl

@[simp] theorem State.tellZero_cpt (a : AxisId) (m : ZeroMsg) : (s.tellZero a m).cpt = s.cpt := rfl
@[simp] theorem State.tellZero_sfl (a : AxisId) (m : ZeroMsg) : (s.tellZero a m).sfl = s.sfl := rfl
@[simp] theorem State.tellZero_axes (a : AxisId) (m : ZeroMsg) : (s.tellZero a m).axes = s.axes := rfl
@[simp] theorem State.tellZero_scu (a : AxisId) (m : ZeroMsg) : (s.tellZero a m).scu = s.scu := rfl
@[simp] theorem State.tellZero_cap (a : AxisId) (m : ZeroMsg) : (s.tellZero a m).cap = s.cap := rfl
@[simp] theorem State.tellZero_rqu (a : AxisId) (m : ZeroMsg) : (s.tellZero a m).rqu = s.rqu := rfl
@[simp] theorem State.tellZero_mga (a : AxisId) (m : ZeroMsg) : (s.tellZero a m).mga = s.mga := rfl
@[simp] theorem State.tellZero_fmn (a : AxisId) (m : ZeroMsg) : (s.tellZero a m).fmn = s.fmn := rfl
@[simp] theorem State.tellZero_freeIndex (a : AxisId) (m : ZeroMsg) : (s.tellZero a m).freeIndex = s.freeIndex := rfl
@[simp] theorem State.tellZero_pending (a : AxisId) (m : ZeroMsg) : (s.tellZero a m).pending = s.pending := rfl

@[simp] theorem State.handLink_cpt (a : AxisId) (e : LinkEvent) : (s.handLink a e).cpt = s.cpt := rfl
@[simp] theorem State.handLink_sfl (a : AxisId) (e : LinkEvent) : (s.handLink a e).sfl = s.sfl := rfl
@[simp] theorem State.handLink_axes (a : AxisId) (e : LinkEvent) : (s.handLink a e).axes = s.axes := rfl
@[simp] theorem State.handLink_scu (a : AxisId) (e : LinkEvent) : (s.handLink a e).scu = s.scu := rfl
@[simp] theorem State.handLink_cap (a : AxisId) (e : LinkEvent) : (s.handLink a e).cap = s.cap := rfl
@[simp] theorem State.handLink_rqu (a : AxisId) (e : LinkEvent) : (s.handLink a e).rqu = s.rqu := rfl
@[simp] theorem State.handLink_mga (a : AxisId) (e : LinkEvent) : (s.handLink a e).mga = s.mga := rfl
@[simp] theorem State.handLink_fmn (a : AxisId) (e : LinkEvent) : (s.handLink a e).fmn = s.fmn := rfl
@[simp] theorem State.handLink_freeIndex (a : AxisId) (e : LinkEvent) : (s.handLink a e).freeIndex = s.freeIndex := rfl
@[simp] theorem State.handLink_pending (a : AxisId) (e : LinkEvent) : (s.handLink a e).pending = s.pending := rfl

@[simp] theorem State.raiseTimes_cpt (b : Block) (k : ErrorKind) (n : Nat) (d : Int) (t : Nat) : (s.raiseTimes b k n d t).cpt = s.cpt := by
  simp only [State.raiseTimes]; split <;> rfl
@[simp] theorem State.raiseTimes_sfl (b : Block) (k : ErrorKind) (n : Nat) (d : Int) (t : Nat) : (s.raiseTimes b k n d t).sfl = s.sfl := by
  simp only [State.raiseTimes]; split <;> rfl
@[simp] theorem State.raiseTimes_axes (b : Block) (k : ErrorKind) (n : Nat) (d : Int) (t : Nat) : (s.raiseTimes b k n d t).axes = s.axes := by
  simp only [State.raiseTimes]; split <;> rfl
@[simp] theorem State.raiseTimes_scu (b : Block) (k : ErrorKind) (n : Nat) (d : Int) (t : Nat) : (s.raiseTimes b k n d t).scu = s.scu := by
  simp only [State.raiseTimes]; split <;> rfl
@[simp] theorem State.raiseTimes_cap (b : Block) (k : ErrorKind) (n : Nat) (d : Int) (t : Nat) : (s.raiseTimes b k n d t).cap = s.cap := by
  simp only [State.raiseTimes]; split <;> rfl
@[simp] theorem State.raiseTimes_rqu (b : Block) (k : ErrorKind) (n : Nat) (d : Int) (t : Nat) : (s.raiseTimes b k n d t).rqu = s.rqu := by
  simp only [State.raiseTimes]; split <;> rfl
@[simp] theorem State.raiseTimes_mga (b : Block) (k : ErrorKind) (n : Nat) (d : Int) (t : Nat) : (s.raiseTimes b k n d t).mga = s.mga := by
  simp only [State.raiseTimes]; split <;> rfl
@[simp] theorem State.raiseTimes_fmn (b : Block) (k : ErrorKind) (n : Nat) (d : Int) (t : Nat) : (s.raiseTimes b k n d t).fmn = s.fmn := by
  simp only [State.raiseTimes]; split <;> rfl
@[simp] theorem State.raiseTimes_freeIndex (b : Block) (k : ErrorKind) (n : Nat) (d : Int) (t : Nat) : (s.raiseTimes b k n d t).freeIndex = s.freeIndex := by
  simp only [State.raiseTimes]; split <;> rfl
@[simp] theorem State.raiseTimes_pending (b : Block) (k : ErrorKind) (n : Nat) (d : Int) (t : Nat) : (s.raiseTimes b k n d t).pending = s.pending := by
  simp only [State.raiseTimes]; split <;> rfl

@[simp] theorem State.reportTimes_cpt (b : Block) (e : Event) (t : Nat) : (s.reportTimes b e t).cpt = s.cpt := by
  simp only [State.reportTimes]; split <;> rfl
@[simp] theorem State.reportTimes_sfl (b : Block) (e : Event) (t : Nat) : (s.reportTimes b e t).sfl = s.sfl := by
  simp only [State.reportTimes]; split <;> rfl
@[simp] theorem State.reportTimes_axes (b : Block) (e : Event) (t : Nat) : (s.reportTimes b e t).axes = s.axes := by
  simp only [State.reportTimes]; split <;> rfl
@[simp] theorem State.reportTimes_scu (b : Block) (e : Event) (t : Nat) : (s.reportTimes b e t).scu = s.scu := by
  simp only [State.reportTimes]; split <;> rfl
@[simp] theorem State.reportTimes_cap (b : Block) (e : Event) (t : Nat) : (s.reportTimes b e t).cap = s.cap := by
  simp only [State.reportTimes]; split <;> rfl
@[simp] theorem State.reportTimes_rqu (b : Block) (e : Event) (t : Nat) : (s.reportTimes b e t).rqu = s.rqu := by
  simp only [State.reportTimes]; split <;> rfl
@[simp] theorem State.reportTimes_mga (b : Block) (e : Event) (t : Nat) : (s.reportTimes b e t).mga = s.mga := by
  simp only [State.reportTimes]; split <;> rfl
@[simp] theorem State.reportTimes_fmn (b : Block) (e : Event) (t : Nat) : (s.reportTimes b e t).fmn = s.fmn := by
  simp only [State.reportTimes]; split <;> rfl
@[simp] theorem State.reportTimes_freeIndex (b : Block) (e : Event) (t : Nat) : (s.reportTimes b e t).freeIndex = s.freeIndex := by
  simp only [State.reportTimes]; split <;> rfl
@[simp] theorem State.reportTimes_pending (b : Block) (e : Event) (t : Nat) : (s.reportTimes b e t).pending = s.pending := by
  simp only [State.reportTimes]; split <;> rfl

/-- One raise: a message of the raising block behind those on their way. -/
@[simp] theorem State.raise_bus (b : Block) (k : ErrorKind) (n : Nat) (d : Int) :
    (s.raise b k n d).bus = { s.bus with raises := s.bus.raises ++ [⟨b, k, n, BitVec.ofInt 32 d, 0⟩] } := rfl

/-- One report: a message of the reporting block behind those on their way. -/
@[simp] theorem State.report_bus (b : Block) (e : Event) :
    (s.report b e).bus = { s.bus with reports := s.bus.reports ++ [⟨b, e, 0⟩] } := rfl

@[simp] theorem State.raiseSource_bus (b : Block) (w : AttentionSource) :
    (s.raiseSource b w).bus = { s.bus with sources := s.bus.sources ++ [⟨b, w⟩] } := rfl

@[simp] theorem State.tellZero_bus (a : AxisId) (m : ZeroMsg) :
    (s.tellZero a m).bus = { s.bus with zeroMsgs := modifyAt s.bus.zeroMsgs a (· ++ [m]) } := rfl

@[simp] theorem State.settleFairness_sfl : s.settleFairness.sfl = s.sfl := by
  simp only [State.settleFairness]; split <;> rfl
@[simp] theorem State.settleFairness_axes : s.settleFairness.axes = s.axes := by
  simp only [State.settleFairness]; split <;> rfl
@[simp] theorem State.settleFairness_scu : s.settleFairness.scu = s.scu := by
  simp only [State.settleFairness]; split <;> rfl
@[simp] theorem State.settleFairness_cap : s.settleFairness.cap = s.cap := by
  simp only [State.settleFairness]; split <;> rfl
@[simp] theorem State.settleFairness_rqu : s.settleFairness.rqu = s.rqu := by
  simp only [State.settleFairness]; split <;> rfl
@[simp] theorem State.settleFairness_mga : s.settleFairness.mga = s.mga := by
  simp only [State.settleFairness]; split <;> rfl
@[simp] theorem State.settleFairness_fmn : s.settleFairness.fmn = s.fmn := by
  simp only [State.settleFairness]; split <;> rfl
@[simp] theorem State.settleFairness_bus : s.settleFairness.bus = s.bus := by
  simp only [State.settleFairness]; split <;> rfl
@[simp] theorem State.settleFairness_freeIndex : s.settleFairness.freeIndex = s.freeIndex := by
  simp only [State.settleFairness]; split <;> rfl
@[simp] theorem State.settleFairness_pending : s.settleFairness.pending = s.pending := by
  simp only [State.settleFairness]; split <;> rfl

@[simp] theorem State.refreshAge_cpt : s.refreshAge.cpt = s.cpt := rfl
@[simp] theorem State.refreshAge_sfl : s.refreshAge.sfl = s.sfl := rfl
@[simp] theorem State.refreshAge_axes : s.refreshAge.axes = s.axes := rfl
@[simp] theorem State.refreshAge_scu : s.refreshAge.scu = s.scu := rfl
@[simp] theorem State.refreshAge_cap : s.refreshAge.cap = s.cap := rfl
@[simp] theorem State.refreshAge_mga : s.refreshAge.mga = s.mga := rfl
@[simp] theorem State.refreshAge_fmn : s.refreshAge.fmn = s.fmn := rfl
@[simp] theorem State.refreshAge_bus : s.refreshAge.bus = s.bus := rfl
@[simp] theorem State.refreshAge_freeIndex : s.refreshAge.freeIndex = s.freeIndex := rfl
@[simp] theorem State.refreshAge_pending : s.refreshAge.pending = s.pending := rfl

/-- The flush age is the only thing examining it anew can change. -/
@[simp] theorem State.refreshAge_rqu : s.refreshAge.rqu = { s.rqu with ageDue := ageDueNow s } := rfl

/-- A vector entry changed by `modifyAt`, read back. -/
@[simp] theorem modifyAt_same {α : Type} {n : Nat} (v : Vector α n) (i : Fin n) (f : α → α) :
    (modifyAt v i f)[i] = f v[i] := by
  simp [modifyAt]

/-- Every other entry is what it was. -/
theorem modifyAt_other {α : Type} {n : Nat} (v : Vector α n) (i j : Fin n) (f : α → α) (h : i ≠ j) :
    (modifyAt v i f)[j] = v[j] := by
  have : i.val ≠ j.val := fun e => h (Fin.ext e)
  simp [modifyAt, Vector.getElem_set, this]

/-- Reading any entry after `modifyAt`. -/
theorem modifyAt_get {α : Type} {n : Nat} (v : Vector α n) (i j : Fin n) (f : α → α) :
    (modifyAt v i f)[j] = if i = j then f v[j] else v[j] := by
  split
  · next h => subst h; exact modifyAt_same v i f
  · next h => exact modifyAt_other v i j f h

end Sys2Proof.Machine
end

