-- ==== Sys2Proof/Laws/Ops.lean ====
section
/-! SUPPORT. One lemma per shared operation: everything it can do, for later proofs to cite in place of its body. -/

namespace Sys2Proof.Machine

/-! ### Numbers -/

theorem clamp_mem {lo hi : Int} (h : lo ≤ hi) (x : Int) : lo ≤ clamp lo hi x ∧ clamp lo hi x ≤ hi := by
  unfold clamp; split
  · omega
  · split <;> omega

theorem clamp_of_mem {lo hi x : Int} (h1 : lo ≤ x) (h2 : x ≤ hi) : clamp lo hi x = x := by
  unfold clamp; split
  · omega
  · split <;> omega

theorem within48_iff (x : Int) : within48 x = true ↔ -140737488355327 ≤ x ∧ x ≤ 140737488355327 := by
  unfold within48
  rw [Bool.and_eq_true, decide_eq_true_iff, decide_eq_true_iff]
  exact Iff.rfl

theorem saturate_mem (x : Int) : -140737488355327 ≤ saturate x ∧ saturate x ≤ 140737488355327 :=
  clamp_mem (by decide) x

theorem within48_saturate (x : Int) : within48 (saturate x) = true :=
  (within48_iff _).2 (saturate_mem x)

theorem saturate_of_within {x : Int} (h : within48 x = true) : saturate x = x :=
  clamp_of_mem ((within48_iff x).1 h).1 ((within48_iff x).1 h).2

/-- `roundDiv x y` is the integer nearest to x / y, halves upward. -/
theorem roundDiv_spec {x y : Int} (h : 0 < y) :
    (2 * roundDiv x y - 1) * y ≤ 2 * x ∧ 2 * x < (2 * roundDiv x y + 1) * y := by
  have h1 := Int.emod_nonneg (2 * x + y) (by omega : 2 * y ≠ 0)
  have h2 := Int.emod_lt_of_pos (2 * x + y) (by omega : 0 < 2 * y)
  have h3 := Int.mul_ediv_add_emod (2 * x + y) (2 * y)
  unfold roundDiv
  generalize (2 * x + y) / (2 * y) = q at *
  constructor <;> nlinarith

theorem finOf_eq_some {n x : Nat} {i : Fin n} : finOf n x = some i ↔ x = i.val := by
  unfold finOf
  constructor
  · intro h; split at h
    · cases h; rfl
    · cases h
  · intro h; subst h; simp

theorem finOf_eq_none {n x : Nat} : finOf n x = none ↔ n ≤ x := by
  unfold finOf; split <;> simp <;> omega

/-- `takeFirst` takes the first element that satisfies p and leaves the others in their order. -/
theorem takeFirst_spec {α : Type} (p : α → Bool) (l : List α) {x : α} {rest : List α}
    (h : takeFirst p l = some (x, rest)) :
    p x = true ∧ ∃ before behind, l = before ++ x :: behind ∧ rest = before ++ behind ∧ ∀ y ∈ before, p y = false := by
  revert rest
  induction l with
  | nil => intro rest h; cases h
  | cons y ys ih =>
    intro rest h
    unfold takeFirst at h
    split at h
    · next hp => cases h; exact ⟨hp, [], ys, rfl, rfl, by simp⟩
    · next hp =>
      cases hr : takeFirst p ys with
      | none => simp [hr] at h
      | some r =>
        obtain ⟨z, zs⟩ := r
        simp only [hr, Option.map_some, Option.some.injEq, Prod.mk.injEq] at h
        obtain ⟨rfl, rfl⟩ := h
        obtain ⟨hx, b, c, h1, h2, h3⟩ := ih hr
        refine ⟨hx, y :: b, c, by simp [h1], by simp [h2], ?_⟩
        intro w hw
        cases hw with
        | head => simpa using hp
        | tail _ hw => exact h3 w hw

/-! ### Messages -/

theorem raiseTimes_bus (s : State) (b : Block) (k : ErrorKind) (n : Nat) (d : Int) (t : Nat) :
    (s.raiseTimes b k n d t).bus =
      if t = 0 then s.bus else { s.bus with raises := s.bus.raises ++ [⟨b, k, n, BitVec.ofInt 32 d, t - 1⟩] } := by
  unfold State.raiseTimes; split <;> rfl

theorem reportTimes_bus (s : State) (b : Block) (e : Event) (t : Nat) :
    (s.reportTimes b e t).bus =
      if t = 0 then s.bus else { s.bus with reports := s.bus.reports ++ [⟨b, e, t - 1⟩] } := by
  unfold State.reportTimes; split <;> rfl

/-! ### Answers -/

/-- What placing an answer does: MGA is free, an addressed request has its response at the newest end, and a refusal is
reported. -/
theorem placeAnswer_eq (r : Request) (status : Status) (data : List Byte) (s : State) :
    placeAnswer r status data s =
      { s with
        mga := { s.mga with
          executing := none
          responses := if r.broadcast then s.mga.responses else s.mga.responses ++ [responseTo r status data false] }
        bus := if statusRefuses status then { s.bus with reports := s.bus.reports ++ [⟨.mga, .managementRefusals, 0⟩] }
          else s.bus } := by
  unfold placeAnswer
  dsimp only
  split <;> rfl

/-- A request that MGA is executing and that `mine` names is taken by its owner. -/
theorem serve_mine {mine : Request → Bool} {owner : Request → State → Answer} {s : State} {r : Request}
    (h : s.mga.executing = some r) (hm : mine r = true) : serve mine owner s = (owner r s).place r := by
  simp [serve, h, hm]

/-- With no request, or another one, nothing happens. -/
theorem serve_other {mine : Request → Bool} {owner : Request → State → Answer} {s : State}
    (h : ∀ r, s.mga.executing = some r → mine r = false) : serve mine owner s = s := by
  unfold serve
  split
  · next r hr => simp [h r hr]
  · rfl

/-! ### The forward queue and the intake -/

theorem offerForward_room {bytes : List Byte} {copy : Option Nat} {s : State} (h : s.cpt.forward.length < 8) :
    offerForward bytes copy s = { s with cpt := { s.cpt with forward := s.cpt.forward ++ [⟨bytes, copy⟩] } } := by
  simp [offerForward, Config.forwardDepth, h, State.modCpt]

theorem offerForward_full {bytes : List Byte} {copy : Option Nat} {s : State} (h : 8 ≤ s.cpt.forward.length) :
    offerForward bytes copy s = s.raise .cpt .forwardOverrun (frameSource bytes) (frameKind bytes) := by
  simp [offerForward, Config.forwardDepth, Nat.not_lt.2 h]

theorem joinIntake_room {bytes : List Byte} {s : State} (h : s.mga.intake.length < 4) :
    joinIntake bytes s =
      { s with mga := { s.mga with intake := s.mga.intake ++
        [{ source := frameSource bytes, broadcast := frameDest bytes == 255, tag := frameTag bytes
           payload := framePayload bytes, copy := s.cpt.nextCopy }] } } := by
  simp [joinIntake, Config.intakeDepth, h, State.modMga]

/-! ### Raises taken by FMN -/

/-- Taking raises changes the flags, the counts, FIRST and the halt reports only. -/
theorem takeRaises_state (m : RaiseMsg) (n : Nat) (s : State) :
    takeRaises m n s = { s with
      fmn := { s.fmn with
        flags := (takeRaises m n s).fmn.flags, counts := (takeRaises m n s).fmn.counts
        first := (takeRaises m n s).fmn.first }
      bus := { s.bus with halts := (takeRaises m n s).bus.halts } } := by
  unfold takeRaises
  dsimp only
  split <;> rfl

/-- Taking the tainting raises of a list changes no more than that. -/
theorem takeTaints_state (l : List RaiseMsg) : ∀ s : State,
    (takeTaints l s).1 = { s with
      fmn := { s.fmn with
        flags := (takeTaints l s).1.fmn.flags, counts := (takeTaints l s).1.fmn.counts
        first := (takeTaints l s).1.fmn.first }
      bus := { s.bus with halts := (takeTaints l s).1.bus.halts } } := by
  induction l with
  | nil => intro s; rfl
  | cons m rest ih =>
    intro s
    simp only [takeTaints]
    split
    · rw [ih, takeRaises_state]
    · exact ih s

/-- What stays on the way stood on the way, in its order. -/
theorem takeTaints_sublist (l : List RaiseMsg) : ∀ s : State, (takeTaints l s).2.Sublist l := by
  induction l with
  | nil => intro s; exact List.Sublist.refl _
  | cons m rest ih =>
    intro s
    simp only [takeTaints]
    split
    · exact (ih _).trans (List.sublist_cons_self _ _)
    · exact (ih s).cons_cons _

/-- No raise that taints stays on the way. -/
theorem takeTaints_left (l : List RaiseMsg) : ∀ s : State, ∀ m ∈ (takeTaints l s).2, taints s.fmn m = false := by
  induction l with
  | nil => intro s m h; cases h
  | cons m rest ih =>
    intro s x hx
    simp only [takeTaints] at hx
    split at hx
    · have h := ih _ x hx
      rw [takeRaises_state] at h
      exact h
    · next hb =>
      cases hx with
      | head =>
        simp only [beforeTaint, Bool.or_eq_true, not_or, Bool.not_eq_true] at hb
        exact hb.1
      | tail _ hx => exact ih s x hx

/-- With no tainting raise in the list nothing is taken. -/
theorem takeTaints_none (l : List RaiseMsg) (s : State) (h : l.any (taints s.fmn) = false) :
    takeTaints l s = (s, l) := by
  induction l with
  | nil => rfl
  | cons m rest ih =>
    simp only [List.any_cons, Bool.or_eq_false_iff] at h
    have hb : beforeTaint s.fmn m rest = false := by
      simp only [beforeTaint, h.1, Bool.false_or]
      rw [List.any_eq_false] at h ⊢
      intro x hx; simp [h.2 x hx]
    simp [takeTaints, hb, ih h.2]

/-- The tainting raises taken: the flags, the counts, FIRST, the halt reports and the raises on their way change. -/
theorem State.taintsTaken_state (s : State) :
    s.taintsTaken = { s with
      fmn := { s.fmn with
        flags := s.taintsTaken.fmn.flags, counts := s.taintsTaken.fmn.counts, first := s.taintsTaken.fmn.first }
      bus := { s.bus with halts := s.taintsTaken.bus.halts, raises := s.taintsTaken.bus.raises } } := by
  unfold State.taintsTaken
  dsimp only
  rw [takeTaints_state]
  rfl

/-- With no tainting raise on its way the query changes the index of the free values only. -/
theorem State.afterQuery_none (s : State) (h : s.bus.raises.any (taints s.fmn) = false) :
    s.afterQuery = { s with freeIndex := s.freeIndex + 1 } := by
  simp only [State.afterQuery, State.taintsTaken, takeTaints_none _ _ h]
  rfl

/-! ### The pending list -/

/-- Resolving a raw field changes messages on their way, and nothing else of the state. -/
theorem testRaw_state (a : AxisId) (s : State) (e : Entry) :
    (testRaw a s e).1 = { s with bus := (testRaw a s e).1.bus } := by
  unfold testRaw
  split
  · split <;> simp only [handOutcome, raiseSaturated] <;> (repeat' split) <;> rfl
  · rfl

/-- A timeout changes messages on their way only. -/
theorem timeoutRaw_state (a : AxisId) (s : State) (e : Entry) :
    (timeoutRaw a s e).1 = { s with bus := (timeoutRaw a s e).1.bus } := by
  unfold timeoutRaw
  split
  · simp only [handOutcome]; split <;> rfl
  · rfl

/-- Resolving a composite changes messages on their way only. -/
theorem settleComposite_state (se : State × Entry) (c : Fin 4) :
    (settleComposite se c).1 = { se.1 with bus := (settleComposite se c).1.bus } := by
  unfold settleComposite
  repeat' split
  all_goals first
    | rfl
    | (simp only [raiseComposite, raiseSaturated]; (repeat' split) <;> rfl)

/-- Completing an entry changes the error log, messages on their way, CAP's last-edge positions and the index of the free
values. -/
theorem completeEntry_state (s : State) (e : Entry) :
    completeEntry s e =
      { s with
        fmn := (completeEntry s e).fmn
        bus := (completeEntry s e).bus
        freeIndex := (completeEntry s e).freeIndex
        cap := { s.cap with lastEdge := (completeEntry s e).cap.lastEdge } } := by
  unfold completeEntry
  split
  · dsimp only
    rw [State.afterQuery, State.taintsTaken_state]
    simp only [gateOrPass, gateRecord, handRecord]; (repeat' split) <;> rfl
  · rfl

/-- What holds of the state at each entry's work, its composites and its completion holds after a sweep. -/
theorem sweep_induct {P : State → Prop} {work : State → Entry → State × Entry}
    (hw : ∀ s e, P s → P (settleComposites (work s e)).1) (hc : ∀ s e, P s → P (completeEntry s e)) :
    ∀ (es : List Entry) (s : State), P s → P (sweep work es s).1 := by
  intro es
  induction es with
  | nil => intro s h; exact h
  | cons e es ih =>
    intro s h
    simp only [sweep]
    split
    · exact ih _ (hc _ _ (hw s e h))
    · exact ih _ (hw s e h)

/-- R140, log 40: a bracket whose entries have one time gives a count between the two counts. -/
theorem interpolate_spanless {h0 h1 : HistEntry} (h : h1.time = h0.time) (t : Time) :
    min h0.count h1.count ≤ interpolate h0 h1 t ∧ interpolate h0 h1 t ≤ max h0.count h1.count := by
  simp only [interpolate, clamp, if_pos h]
  split_ifs <;> omega

/-- R140, log 40: a bracket of one entry gives that entry's count, whatever the time. -/
theorem interpolate_one_entry (h : HistEntry) (t : Time) : interpolate h h t = h.count := by
  have := interpolate_spanless (h0 := h) (h1 := h) rfl t
  omega

/-- A sweep keeps no more entries than there were. -/
theorem sweep_length (work : State → Entry → State × Entry) :
    ∀ (es : List Entry) (s : State), (sweep work es s).2.length ≤ es.length := by
  intro es
  induction es with
  | nil => intro s; exact Nat.le_refl _
  | cons e es ih =>
    intro s
    simp only [sweep]
    split
    · exact Nat.le_succ_of_le (ih _)
    · simpa using ih _

end Sys2Proof.Machine
end

