-- ==== Sys2Proof/Tests/Slice0.lean ====
section
/-! SUPPORT. Tests: the refusals of WellFormed, the manual's worked examples, one small test per family of commands, and
for every statement with hypotheses a concrete state that meets them. Expected values come from the manual's tables. -/

namespace Sys2Proof.Tests

open Sys2Proof.Machine

set_option maxRecDepth 8000

/-! ### Small states -/

/-- The command went on, and the state it left satisfies p. -/
def leaves (o : Host.Outcome State Fault Refusal) (p : State → Bool) : Bool :=
  match o with
  | .next t => p t
  | _ => false

/-- Station 4, controlled by station 1. -/
def base : State := { State.reset with cpt := { station := 4, controller := 1 } }

/-- A request of station 1. -/
def ask (code subject index : Nat) (args : List Byte) : Request :=
  { source := 1, broadcast := false, tag := 7, copy := 0
    payload := leBytes 1 code ++ leBytes 1 subject ++ leBytes 2 index ++ args }

/-- MGA is executing the request. -/
def serving (r : Request) (s : State) : State := { s with mga := { s.mga with executing := some r } }

/-- The request stands in the intake. -/
def waiting (r : Request) (s : State) : State := { s with mga := { s.mga with intake := [r] } }

/-- Axis 0 in this state, with an enabled entry. -/
def withAxis (c : AxisContext) (s : State) : State :=
  s.modAxis 0 fun x => { x with ctx := c, settings := { x.settings with enable := true } }

def counting : AxisContext := { state := .free, count := 1000, ring := [⟨500, 1000, true, false⟩] }

/-- A frame of station 9. -/
def frame (kind dest : Nat) (payload : List Byte) : List Byte := buildFrame kind dest 9 0 0 600 payload

/-- One pair, one sample, at period 100. -/
def samplePayload : List Byte :=
  leBytes 1 1 ++ leBytes 1 1 ++ leBytes 2 100 ++ leBytes 6 700 ++ leInt 2 20412 ++ leInt 2 11770 ++ leBytes 2 0

/-- One event of channel 2, FALL, at 700. -/
def markerPayload : List Byte := leBytes 1 1 ++ leBytes 1 2 ++ leBytes 1 1 ++ leBytes 6 700

/-- One value for group 1. -/
def airPayload : List Byte := leBytes 1 1 ++ leBytes 1 1 ++ leInt 4 (-7)

/-- Station 9 feeds axis 0, marker source 3 and the environment groups; the marker's frames are consumed. -/
def fed (s : State) : State :=
  { s with sfl := { table := Vector.ofFn fun i : Fin 16 =>
      if i = 0 then some ⟨9, 0, true, .samplePair 0 100⟩
      else if i = 1 then some ⟨9, 2, false, .marker 3 none⟩
      else if i = 2 then some ⟨9, 0, true, .environment⟩
      else none } }

/-- A record of an edge of source 0. -/
def aRecord : Record :=
  { kind := .edge, source := 0, polarity := .rise, zone := 255, time := 500, taint := false, ungated := false
    envStale := false, fields := [⟨0, .ok, 5⟩] }

/-- n records in the queue. -/
def queued (n : Nat) (s : State) : State :=
  { s with rqu := { s.rqu with queue := List.replicate n ⟨0, aRecord⟩ } }

/-- An entry that waits for axis 0, taken at time t. -/
def anEntry (t : Time) : Entry :=
  { id := 0, kind := .edge, source := 0, polarity := .rise, time := t, record := true, mask := 1, gated := false
    zeroMark := none, windowAxis := none, copies := Vector.replicate 4 none
    raw := (Vector.replicate 6 none).set 0 (some .waiting), composite := Vector.replicate 4 none }

/-! ### WellFormed refuses what is ill formed -/

theorem test_wf_bad_frame : Instr.wf (.badFrame (frame 1 255 [])) = false := by decide
theorem test_wf_cycle : Instr.wf (.cycle (frame 2 255 [])) = false := by decide
theorem test_wf_assign : Instr.wf (.assign (frame 1 255 [])) = false := by decide
theorem test_wf_sample : Instr.wf (.sample (frame 4 255 [])) = false := by decide
theorem test_wf_marker : Instr.wf (.marker (frame 3 255 [])) = false := by decide
theorem test_wf_environment : Instr.wf (.environment [1, 2, 3]) = false := by decide
theorem test_wf_manage : Instr.wf (.manage (frame 7 4 [])) = false := by decide
theorem test_wf_forwarded : Instr.wf (.forwardedFrame (frame 1 4 [])) = false := by decide
theorem test_wf_restart : Instr.wf (.restart (some .mga)) = false := by decide
theorem test_wf_error_raise : Instr.wf (.errorRaise .fmn) = false := by decide
theorem test_wf_attention : Instr.wf (.attentionSourceRaise .cap) = false := by decide
theorem test_wf_event_report : Instr.wf (.eventReport .scu) = false := by decide

/-! ### The manual's worked examples -/

/-- R5's reference value. -/
theorem test_check_of_123456789 :
    crc32 [0x31, 0x32, 0x33, 0x34, 0x35, 0x36, 0x37, 0x38, 0x39] = 0xCBF43926 := by decide

/-- Section 3.8: the sample's correction, phase and corrected phase. -/
theorem test_worked_case_stages :
    stage1 { oC := 412, oS := -230, gain := 16630, ks := 350, kc := 16388 } 20412 11770 = (20000, 11756)
      ∧ phaseOf (Vector.ofFn fun k : Fin 64 => if k = 5 then 3 else if k = 6 then 9 else 0) (20000, 11756) = 341 := by
  decide

/-- Section 3.5, interpolation across the table's ends. -/
theorem test_table_ends :
    let e : Vector Int 64 := Vector.ofFn fun k => if k = 0 ∨ k = 1 then 10 else if k = 63 then -4 else 0
    correctedPhase e 4090 = 4081 ∧ correctedPhase e 4032 = 4036 ∧ correctedPhase e 2 = 4088
      ∧ correctedPhase e 4094 = 4084 := by
  decide

/-- Section 4.10: the increment, count and tracking of the sample, and the same phase as a gap of seven periods. -/
theorem test_worked_case_unwrap :
    let c : AxisContext := { state := .referenced, pcPrev := 4051, tracking := 380, count := 5242707, tAcc := 7000000 }
    unwrap {} c 7000100 341 100 = ⟨386, 5243093, 386, false, false, []⟩
      ∧ unwrap {} c 7000700 341 100 = ⟨386, 5243093, 0, true, false, [(.slipGap, 7)]⟩ := by
  decide

/-- Section 5.6: the scale factor, the length and the dead-path term (of a dead path beyond its range, log 27), and the
interpolated count. -/
theorem test_worked_case_position :
    effectiveFactor 648182784 271500 = 648006850 ∧ lengthOf 5243093 648006850 = 202510368
      ∧ deadPathTerm 120000 271300 271500 = -24000 ∧ roundDiv (386 * 50) 100 = 193 := by
  decide

/-- Section 5.5, two beams and their composites: cases 1, 3 and 4. -/
theorem test_composites :
    let w : CompositeEntry := .weighted 0 1 8192 8192 true
    let d : CompositeEntry := .diffRatio 0 1 60
    compositeField w (.value .ok 200986368 false) (.value .ok 200983250 false) = .value .ok 200984809 false
      ∧ compositeField d (.value .ok 200986368 false) (.value .relative 200983250 false) = .value .relative 52 false
      ∧ compositeField w (.value .ok 200986368 false) (.absent .timeout) = .value .fallback 200986368 false
      ∧ compositeField d (.value .ok 200986368 false) (.absent .timeout) = .absent .timeout
      ∧ compositeField w (.absent .late) (.value .unsure 200983250 false) = .value .unsure 200983250 false := by
  decide

/-- Chapter 7, the worked calibration: the coefficients of the calibration. -/
theorem test_worked_case_secant : secantOf 349 = 16388 ∧ secantOf 4096 = 16921 ∧ secantOf 0 = 16384 := by decide +kernel

/-- Section 8.2, catching up: slot 1 at the advance to 7,000,500. -/
theorem test_catching_up :
    slotAfter ⟨true, 7000100, 200⟩ 7000500 = ⟨true, 7000700, 200⟩
      ∧ skippedFirings ⟨true, 7001100, 200⟩ 7011000 = 49 := by
  decide

/-! ### One small test per family of commands -/

/-- R17: a first CYCLE frame establishes the link time. -/
theorem test_cycle_keeps_time :
    leaves (exec (.cycle (frame 1 255 [])) base) (fun t => t.cpt.observed == 600 && t.cpt.established) = true := by decide

/-- Section 1.3, numbering three parts: number 4 is taken and 5 sent on. -/
theorem test_assign_numbers :
    leaves (exec (.assign (frame 2 0 [4, 1])) State.reset) (fun t => t.cpt.station == 4 && t.cpt.controller == 1
      && t.cpt.forward.map (fun f => framePayload f.bytes) == [[5, 1]]) = true := by decide

/-- R32: the sample is dated by the payload. -/
theorem test_sample_delivered :
    leaves (exec (.sample (frame 3 255 samplePayload)) (fed base))
      (fun t => t.bus.samples[(0 : AxisId)] == [⟨700, 20412, 11770, false, 100⟩]) = true := by decide +kernel

/-- R33, R35: the event keeps its polarity and time, and the frame is consumed. -/
theorem test_marker_consumed :
    leaves (exec (.marker (frame 4 255 markerPayload)) (fed base))
      (fun t => t.bus.markers == [⟨3, .fall, 700, none⟩] && t.cpt.forward.isEmpty) = true := by decide

/-- R85: with no slew limit the value is applied. -/
theorem test_environment_applied :
    leaves (exec (.environment (frame 5 255 airPayload)) (fed base))
      (fun t => leaves (exec .envValue t) fun u => (u.scu.groups[(1 : GroupId)]).applied == -7) = true := by decide

/-- R60, the bucket: sample 3 of the example reaches the threshold and decays in the same sample. -/
theorem test_bucket_example :
    let st : AxisSettings := { bucketThreshold := 3, decayInterval := 16 }
    let c : AxisContext := { state := .free, bucket := 2, decay := 15 }
    reachesThreshold st c true = true ∧ (countTowardDecay st (fillBucket c true)).bucket = 2 := by decide

/-- R61: the first strong sample starts the count at 0, slip-flagged. -/
theorem test_acquisition :
    leaves (exec (.sampleArrival 0) { withAxis { state := .acquire } base with
        bus := { samples := (Vector.replicate 6 []).set 0 [⟨700, 20412, 0, false, 100⟩] } })
      (fun t => (t.axes[(0 : AxisId)]).ctx.state == .free
        && (t.axes[(0 : AxisId)]).ctx.ring == [⟨700, 0, true, false⟩]) = true := by decide

/-- R176: a code outside the set is answered UNKNOWN. -/
theorem test_unknown_request :
    leaves (exec .unknownRequest (serving (ask 0x40 0 0 []) base))
      (fun t => t.mga.responses.map (·.status) == [.unknown]) = true := by decide

/-- R185: IDENTIFY returns 19 bytes. -/
theorem test_identify : (identityBytes base).length = 19 := by decide

/-- R193: the three switches of a route byte. -/
theorem test_route_write :
    leaves (exec .writeTableRoute (serving (ask 3 9 22 [5]) base)) (fun t => t.fmn.routes[22] == ⟨true, false, true⟩)
      = true := by decide

/-- R186: a RESTART keeps the station and the tables. -/
theorem test_restart_keeps :
    leaves (exec (.restart none) { serving (ask 0x3E 0 0 []) (withAxis counting (fed base)) with
        mga := { executing := some (ask 0x3E 0 0 []), restartLeft := restartBlocks } })
      (fun t => t.cpt.station == 4 && t.sfl == (fed base).sfl && (t.axes[(0 : AxisId)]).ctx == {}
        && t.mga.responses.map (·.status) == [.done]) = true := by decide

/-- R190, R191: a raise fills an empty FIRST record. -/
theorem test_raise_taken :
    leaves (exec (.errorRaise .cpt) { base with bus := { raises := [⟨.cpt, .linkTime, 9, 600, 0⟩] } })
      (fun t => t.fmn.flags[4] && t.fmn.first == some ⟨.linkTime, 9, 0, 600⟩) = true := by decide

/-- R15, arbitration under load: four forwarded frames go while a response waits, then the response. -/
theorem test_arbitration :
    leaves (exec .transmitStart { base with
        cpt := { base.cpt with forward := [⟨frame 1 255 [], none⟩], fairness := 4 }
        mga := { responses := [⟨1, 7, 1, .done, [], false⟩] } })
      (fun t => t.cpt.fairness == 0 && t.cpt.forward.length == 1
        && t.cpt.transmitter.any (fun b => frameKind b == 7 && frameDest b == 1)) = true := by decide

/-! ### Witnesses: states that meet the hypotheses of the statements, clause by clause -/

/-- StepKeeps…: a state that meets every kept predicate and steps: a SAMPLE frame waits at a part that counts. -/
theorem witness_kept_predicates :
    let s : State := { withAxis counting (fed base) with pending := [.sample (frame 3 255 samplePayload)] }
    s.bounded ∧ s.axesLegal ∧ s.settingsLegal ∧ s.groupsLegal ∧ s.framesGood ∧ s.sourcesUnique ∧ s.armedValid
      ∧ s.entriesUnresolved ∧ s.fmn.logLegal ∧ s.unassignedIdle ∧ s.axesCounted
      ∧ leaves (step s) (fun _ => true) = true := by
  refine ⟨?_, ?_, ?_, ?_, ?_, ?_, ?_, ?_, ?_, ?_, ?_, ?_⟩ <;> decide +kernel

/-- StepKeepsSourcesUnique: the entries of that part lie in the ranges of their kinds. -/
theorem witness_sources_in_range : (fed base).sourcesInRange := by
  intro i x hx
  fin_cases i <;> simp [fed] at hx <;> subst hx <;> decide

/-- TableEntriesReadBackAsWritten, at the ends of the ranges. -/
theorem witness_entries_in_range :
    SourceEntry.inRange ⟨250, 3, true, .samplePair 5 2000⟩ ∧ SourceEntry.inRange ⟨1, 7, false, .marker 7 (some 5)⟩
      ∧ SourceEntry.inRange ⟨1, 0, true, .environment⟩
      ∧ settingsInRange { oC := -32768, gain := 32768, ks := 4096, kc := 16928, slipLimit := 64 } = true
      ∧ CompositeEntry.inRange (.weighted 0 5 (-32768) 32768 true) ∧ CompositeEntry.inRange (.diffRatio 0 1 65535)
      ∧ isExcess (-1000000) ∧ WindowEntry.inRange { limit := -140737488355327, zone := 254, spacing := 4294967295 }
      ∧ WindowHeader.inRange { base := 140737488355327, valid := 32 }
      ∧ Delivery.inRange { reader := 250, watermark := 128, interval := 4294967295 } := by decide

/-- TableEntriesReadBackAsWritten: bytes that are read, of a whole entry of each table with a range, and codes that are not. -/
theorem witness_readers_accept :
    sourceOf (sourceBytes (some ⟨250, 7, true, .marker 7 (some 5)⟩)) = some (some ⟨250, 7, true, .marker 7 (some 5)⟩)
      ∧ sourceOf (leBytes 10 2) = none ∧ compositeOf (leBytes 14 3) = none
      ∧ axisSettingsOf (axisSettingsBytes {}) = some {} ∧ (axisSettingsBytes {}).length = 43
      ∧ axisSettingsOf ((axisSettingsBytes {}).set 20 4) = none ∧ groupSettingsOf ((groupBytes {}).take 12) ≠ none
      ∧ windowEntryOf ((windowEntryBytes {}).set 9 3) = none ∧ windowHeaderOf ((windowHeaderBytes {}).set 7 10) = none
      ∧ capMapOf [0, 4, 0] = none ∧ compareSlotOf ((compareSlotBytes {}).set 0 2) = none ∧ routeOf [8] = none
      ∧ deliveryOf ((deliveryBytes {}).set 7 2) = none ∧ timingOf (timingBytes 1000000 65535) = some (1000000, 65535)
      ∧ selectionOf [28] = none := by decide

/-- PhaseFollowsTheDirection, CorrectionLiesBetweenTableEntries, ScaleFactorAndDeadPathInRange,
InterpolatedCountLiesInItsBracket and CalibratedSecantIsNearest, at the ends of their ranges. -/
theorem witness_arithmetic :
    (¬((0 : Int) = 0 ∧ (1 : Int) = 0) ∧ (0 : Int) < 1)
      ∧ (∀ k : Fin 64, -128 ≤ (Vector.replicate 64 (127 : Int))[k] ∧ (Vector.replicate 64 (127 : Int))[k] ≤ 127)
      ∧ (1 ≤ 4294967295 ∧ isExcess (-1000000) ∧ isExcess 1000000)
      ∧ (((10 : Time) - 10).toNat ≤ ((20 : Time) - 10).toNat ∧ ((20 : Time) - 10).toNat ≤ ((20 : Time) - 10).toNat)
      ∧ (-4096 ≤ (4096 : Int) ∧ (4096 : Int) ≤ 4096) := by decide

/-- ScaleFactorAndDeadPathInRange, its last clause: a sum at the limit, one above it and one below. -/
theorem witness_position_limits :
    let s (offset : Int) : State := withAxis { counting with offset := offset } base
    rawPosition ((s 140737488355327).axes[(0 : AxisId)]) 0 0 = 140737488355327
      ∧ 140737488355327 < rawPosition ((s 140737488355327).axes[(0 : AxisId)]) 1 0
      ∧ rawPosition ((s (-140737488355327)).axes[(0 : AxisId)]) (-1) 0 < -140737488355327 := by decide

/-- InterpolatedCountLiesInItsBracket, its clauses about one field: a field that waits and one that does not; a bracket
at both of its times and at exactly 2^47 ticks; no bracket, before the ring, on an axis in OFF and on one that counts. -/
theorem witness_field_tests :
    let ring : List HistEntry := [⟨500, 1000, true, false⟩, ⟨600, 1100, false, false⟩]
    (anEntry 550).raw[(0 : AxisId)] = some .waiting ∧ (anEntry 550).raw[(1 : AxisId)] ≠ some .waiting
      ∧ bracketBefore ring 500 = some ⟨500, 1000, true, false⟩ ∧ bracketAfter ring 600 = some ⟨600, 1100, false, false⟩
      ∧ bracketBefore ring (500 + 140737488355328) = some ⟨600, 1100, false, false⟩
      ∧ bracketAfter ring (500 + 140737488355328) = some ⟨500, 1000, true, false⟩
      ∧ bracketBefore ring 499 = none ∧ (∃ h ∈ ring.head?, later h.time 499 = true)
      ∧ bracketAfter ring 601 = none ∧ (∀ h ∈ ring.head?, later h.time 601 = false)
      ∧ ({} : AxisContext).counting = false ∧ counting.counting = true ∧ bracketBefore [] 601 = none := by decide

/-- InterpolatedCountLiesInItsBracket: a bracket of one entry, and one of two entries of one time, exactly 2^47 ticks away. -/
theorem witness_spanless_bracket :
    let h : HistEntry := ⟨500, 1000, true, false⟩
    let g : HistEntry := ⟨500, 1100, false, false⟩
    let t : Time := 500 + 140737488355328
    bracketBefore [h] t = some h ∧ bracketAfter [h] t = some h ∧ h.time ≠ t
      ∧ bracketBefore [h, g] t = some g ∧ bracketAfter [h, g] t = some h ∧ h.time = g.time := by decide

/-- InterpolatedCountLiesInItsBracket, its clauses about composites: a composite whose inputs have resolved is limited and
raised, and one that waits for an input is left. -/
theorem witness_settled :
    let e : Entry := { anEntry 550 with
      raw := ((anEntry 550).raw.set 0 (some (.value .ok 140737488355327 false))).set 1 (some (.value .unsure 0 true))
      copies := (Vector.replicate 4 none).set 0 (some (.weighted 0 1 32768 0 false))
      composite := (Vector.replicate 4 none).set 0 (some .waiting) }
    (e.settled).composite[(0 : Fin 4)] = some (.value .unsure 140737488355327 true)
      ∧ e.saturations = [⟨.scu, .positionSaturated, 6, 3, 0⟩]
      ∧ ({ e with raw := (anEntry 550).raw } : Entry).settled.composite[(0 : Fin 4)] = some .waiting := by decide

/-- BadFramesFillTheBucketThatGoodFramesDrain: both sorts of bad frame, the step to 32, and the count before 1000. -/
theorem witness_bad_frames :
    goodFrame [] = false ∧ goodFrame ((frame 1 255 []).set 17 0) = false
      ∧ frameWellFormed ((frame 1 255 []).set 17 0) = true
      ∧ ({ base with cpt := { base.cpt with bucket := 31, decay := 999 } } : State).cpt.decay = 999 := by decide +kernel

/-- CycleFramesKeepTimeAndAreForwarded: the first time, a later one, and one that is not later. -/
theorem witness_cycle :
    goodFrameOfKind 1 (frame 1 255 []) = true ∧ base.cpt.station ≠ 0 ∧ base.cpt.forward.length < 8
      ∧ base.cpt.established = false ∧ later (frameTime (frame 1 255 [])) 599 = true
      ∧ later (frameTime (frame 1 255 [])) 600 = false := by decide +kernel

/-- AssignFramesNumberUnassignedParts: a valid number at both ends, and the invalid cases. -/
theorem witness_assign :
    goodFrameOfKind 2 (frame 2 0 [250, 1]) = true ∧ State.reset.cpt.station = 0
      ∧ 2 ≤ (framePayload (frame 2 0 [250, 1])).length ∧ field (framePayload (frame 2 0 [250, 1])) 0 1 = 250
      ∧ field (framePayload (frame 2 0 [1, 1])) 0 1 = 1 ∧ field (framePayload (frame 2 0 [251, 1])) 0 1 = 251
      ∧ (framePayload (frame 2 0 [4])).length < 2 ∧ goodFrameOfKind 2 (frame 2 0 [4]) = true := by decide +kernel

/-- SampleFramesDeliverMatchedPairs and MarkerAndEnvironmentFramesHandWhatTheyCarry: usable frames that match, one kept
and one forwarded, and a frame of no use. -/
theorem witness_sources :
    (fed base).sourcesUnique ∧ goodFrameOfKind 3 (frame 3 255 samplePayload) = true ∧ sampleUsable samplePayload = true
      ∧ feeds (fed base) 9 0 0 100 ∧ goodFrameOfKind 4 (frame 4 255 markerPayload) = true
      ∧ markerUsable markerPayload = true ∧ goodFrameOfKind 5 (frame 5 255 airPayload) = true
      ∧ environmentUsable airPayload = true ∧ (fed base).sfl.table[(2 : Fin 16)] = some ⟨9, 0, true, .environment⟩
      ∧ environmentUsable [] = false ∧ goodFrameOfKind 5 (frame 5 255 []) = true := by decide +kernel

/-- SampleFramesDeliverMatchedPairs: a frame that is consumed, and one of another period than its entry's (R31). -/
theorem witness_sample_consumed :
    let s (forward : Bool) (period : Nat) : State := { base with
      sfl := { table := (Vector.replicate 16 none).set 0 (some ⟨9, 0, forward, .samplePair 0 period⟩) } }
    (s false 100).sourcesUnique ∧ pairCount samplePayload = 1 ∧ frameSource (frame 3 255 samplePayload) = 9
      ∧ leaves (exec (.sample (frame 3 255 samplePayload)) (s false 100)) (fun t => t.cpt.forward.isEmpty) = true
      ∧ leaves (exec (.sample (frame 3 255 samplePayload)) (s true 50)) (fun t => t.bus.raises
          == [⟨.sfl, .periodMismatch, 0, BitVec.ofNat 32 (100 * 65536 + 50), 0⟩] && t.cpt.forward.length == 1) = true := by
  decide +kernel

/-- MarkerAndEnvironmentFramesHandWhatTheyCarry: an ENVIRONMENT frame that is consumed; one of a group above 3, which the
same entry forwards; and one of a station without an entry. -/
theorem witness_environment_consumed :
    let s : State := { base with
      sfl := { table := (Vector.replicate 16 none).set 15 (some ⟨9, 0, false, .environment⟩) } }
    let far : List Byte := leBytes 1 1 ++ leBytes 1 4 ++ leInt 4 (-7)
    s.sourcesUnique ∧ SourceEntry.inRange ⟨9, 0, false, .environment⟩ ∧ goodFrameOfKind 5 (frame 5 255 airPayload) = true
      ∧ environmentUsable airPayload = true ∧ s.sfl.table[(15 : Fin 16)] = some ⟨9, 0, false, .environment⟩
      ∧ (0 < field airPayload 0 1 ∧ field airPayload 1 1 < 4) ∧ environmentUsable far = true ∧ field far 1 1 = 4
      ∧ leaves (exec (.environment (frame 5 255 airPayload)) s)
          (fun t => t.cpt.forward.isEmpty && t.bus.envValues == [⟨1, -7⟩]) = true
      ∧ leaves (exec (.environment (frame 5 255 far)) s)
          (fun t => t.cpt.forward.length == 1 && t.bus.envValues.isEmpty) = true
      ∧ (∀ i : Fin 16, base.sfl.table[i] = none) := by decide +kernel

/-- ManageFramesJoinTheIntakeOthersAreForwarded: room and no room, in the intake and in the forward queue. -/
theorem witness_manage_and_others :
    goodFrameOfKind 6 (frame 6 4 [1, 0, 0, 0]) = true ∧ frameDest (frame 6 4 [1, 0, 0, 0]) = base.cpt.station
      ∧ base.mga.intake.length < 4
      ∧ 4 ≤ ({ base with mga := { intake := List.replicate 4 (ask 1 0 0 []) } } : State).mga.intake.length
      ∧ goodFrame (frame 8 1 []) = true ∧ 6 < frameKind (frame 8 1 [])
      ∧ goodFrame (frame 6 5 []) = true ∧ frameDest (frame 6 5 []) ≠ 255
      ∧ 8 ≤ (List.replicate 8 (⟨[], none⟩ : ForwardedFrame)).length := by decide +kernel

/-- ChainGoesDownAtTheLimit: one microsecond before the limit, and at it. -/
theorem witness_chain_down :
    let s : State := { base with cpt := { base.cpt with timer := 998 } }
    let u : State := { base with cpt := { base.cpt with timer := 999 } }
    s.cpt.station ≠ 0 ∧ s.cpt.timer + 1 < s.cpt.chainLimit ∧ u.cpt.down = false ∧ u.cpt.chainLimit ≤ u.cpt.timer + 1 := by
  decide

/-- ArbiterChoosesByFairness and RecordFramesTakeTheOldestRecords: a forwarded frame at 3, a response at 4, a record
offer in PUSH and in PULL, and a RESTART under way. -/
theorem witness_transmit :
    let s : State := { base with
      cpt := { base.cpt with forward := [⟨frame 1 255 [], none⟩], fairness := 4 }
      mga := { responses := [⟨1, 7, 1, .done, [], false⟩] } }
    let q : State := { queued 5 base with rqu := { (queued 5 base).rqu with delivery := { reader := 1, watermark := 5 } } }
    let p : State := { q with rqu := { q.rqu with drain := 2, delivery := { reader := 1, pull := true } } }
    let h : State := { base with mga := { restartLeft := [.fmn] } }
    s.cpt.transmitter = none ∧ transmitHeld s = false ∧ insertWaiting s = true ∧ s.cpt.fairness = 4
      ∧ transmitHeld h = true
      ∧ (insertWaiting base = true → base.cpt.fairness < 4)
      ∧ offerHolds q = true ∧ q.mga.responses = [] ∧ q.cpt.forward = [] ∧ transmitHeld q = false ∧ offerHolds p = true := by
  decide

/-- The frames that ArbiterChoosesByFairness and RecordFramesTakeTheOldestRecords lay out, with every item at its limit. -/
theorem witness_sent_frames :
    let e : AxisEntry := ⟨9, .off, -140737488355327⟩
    let q : QueuedRecord := ⟨65535, { aRecord with zone := 255, taint := true, fields := List.replicate 10 e }⟩
    let s : State := { base with rqu := { queue := [q], drops := 65535, delivery := { reader := 250 } } }
    let r : Response := ⟨255, 65535, 0xFF, .unknown, List.replicate 510 0, false⟩
    s.cpt.station < 256 ∧ r.dest < 256 ∧ r.tag < 65536 ∧ r.data.length ≤ 510
      ∧ s.framesGood ∧ s.rqu.delivery.reader < 256 ∧ q.sequence < 65536 ∧ s.rqu.queue.take 4 = [q] ∧ q.body.zone < 256
      ∧ q.body.fits ∧ q.body.fields[9]? = some e ∧ e.axis < 256 ∧ within48 e.value = true ∧ s.rqu.drops < 65536
      ∧ (recordBytes 65535 q).length = 96 := by decide

/-- ArbiterChoosesByFairness and RecordFramesTakeTheOldestRecords: nothing waiting; the three ways in which a frame is held;
and a queue that reaches its watermark with reader station 0 and with another. -/
theorem witness_no_frame :
    let q (reader : Nat) : State := { queued 1 base with
      rqu := { (queued 1 base).rqu with delivery := { reader := reader, watermark := 1 } } }
    base.cpt.forward = [] ∧ base.mga.responses = [] ∧ offerHolds base = false ∧ offerHolds (q 0) = false
      ∧ offerHolds (q 1) = true
      ∧ transmitHeld { base with mga := { resetWait := some .response } } = true
      ∧ transmitHeld { base with mga := { resetWait := some (.copy 3) } } = true
      ∧ transmitHeld { base with mga := { restartLeft := restartBlocks } } = false
      ∧ transmitHeld { base with mga := { restartLeft := [.fmn] } } = true := by decide

/-- FullResetsLeaveResetValues: FULL RESET executing, addressed and broadcast, and the two waits over and not over. -/
theorem witness_full_reset :
    let s : State := { base with mga := { resetWait := some .response } }
    let u : State := { base with mga := { resetWait := some (.copy 3) } }
    Executing (serving (ask 0x3F 0 0 []) base) .fullReset (ask 0x3F 0 0 [])
      ∧ ({ ask 0x3F 0 0 [] with broadcast := true } : Request).op = some .fullReset
      ∧ s.mga.resetWait = some .response ∧ (∀ r ∈ s.mga.responses, r.endsInReset = false)
      ∧ u.mga.resetWait = some (.copy 3) ∧ (∀ f ∈ u.cpt.forward, f.copyOf ≠ some 3) ∧ u.mga.resetWait ≠ none := by decide

/-- RestartClearsMeasurementAndKeepsConfiguration: every block has still to take the RESTART. -/
theorem witness_restart :
    let s : State := { base with mga := { executing := some (ask 0x3E 0 0 []), restartLeft := restartBlocks } }
    (ask 0x3E 0 0 []).op = some .restart ∧ s.mga.restartLeft = restartBlocks ∧ s.mga.restartLeft.Nodup
      ∧ .fmn ∈ s.mga.restartLeft ∧ leaves (exec (.restart (some .fmn)) s) (fun t => t.mga.executing.isSome) = true := by
  decide

/-- RequestsAreHandedOnDeniedOrUnknown and BroadcastRequestsAreNeverAnswered: a read request, a write at both ends of
the table numbers, CLEAR ERRORS with the largest mask, a foreign source, an unknown code and the broadcasts. -/
theorem witness_requests :
    BeginsNow (waiting (ask 1 0 0 []) base) (ask 1 0 0 []) [] ∧ anyStation .identify = true
      ∧ (ask 3 1 0 []).op = some .writeTable ∧ 1 ≤ (ask 3 1 0 []).subject ∧ (ask 3 12 0 []).subject ≤ 12
      ∧ (ask 3 1 0 []).source = base.cpt.controller
      ∧ (let r := ask 0x31 0 0 (leBytes 4 0x03FFFFFE)
         r.op = some .clearErrors ∧ neededArgs .clearErrors ≤ r.args.length ∧ (field r.args 0 4).testBit 0 = false
           ∧ field r.args 0 4 < 67108864)
      ∧ ({ ask 0x10 0 0 [] with source := 2 } : Request).source ≠ base.cpt.controller
      ∧ (ask 0x10 0 0 []).op = some .axisStart ∧ anyStation .axisStart = false
      ∧ (ask 0x40 0 0 []).op = none ∧ (ask 0x40 0 0 []).broadcast = false
      ∧ ({ ask 0x3E 0 0 [] with broadcast := true } : Request).op = some .restart
      ∧ ({ ask 0x20 0 0 [] with broadcast := true } : Request).op ≠ some .restart := by decide

/-- RequestsAreHandedOnDeniedOrUnknown, MGA's own REFUSED_RANGE: an argument too few, both sorts of undefined bit, and the
two table numbers beside the range, each answered so. -/
theorem witness_mga_refusals :
    let refuses (r : Request) : Bool :=
      leaves (exec .requestBegin (waiting r base)) fun t => t.mga.responses.map (·.status) == [.refusedRange]
    neededArgs .preset = 6 ∧ (ask 0x14 0 0 (List.replicate 5 0)).op = some .preset
      ∧ refuses (ask 0x14 0 0 (List.replicate 5 0)) = true ∧ refuses (ask 0x31 0 0 (leBytes 4 1)) = true
      ∧ refuses (ask 0x31 0 0 (leBytes 4 67108864)) = true ∧ refuses (ask 3 0 0 []) = true ∧ refuses (ask 3 13 0 []) = true
      ∧ refuses (ask 3 12 0 []) = false := by decide

/-- ReadRequestsChangeOnlyTheAnswer, its layouts: a log with FIRST filled, a queue with a record and an age due, and an
axis with its items at the limits of their ranges. -/
theorem witness_layouts :
    let f : Fmn := {
      flags := (Vector.replicate 23 false).set 22 true
      counts := (Vector.replicate 23 0).set 22 255
      first := some ⟨.captureTimeout, 5, 281474976710655, 7⟩ }
    let g : Fmn := { f with flags := (Vector.replicate 23 true), counts := (Vector.replicate 23 255) }
    let x : Axis := {
      ctx := { counting with
        count := -140737488355327, tracking := -1048575, pcPrev := 4095, bucket := 255, signal := 281474976710655
        offset := 140737488355327, xRef := -1000000, zeroShift := -140737488355327 }
      cal := { outcome := .running, required := 255, sampleLimit := 1048576, seen := 1048575, motion := 4294967295
               maxC := 32767, minC := -32768, oC := -32768, kc := 16928, gain := 32768 } }
    ({} : Fmn).logLegal ∧ g.logLegal ∧ g.first.isSome = true ∧ (queued 1 base).bounded ∧ base.rqu.queue = []
      ∧ x.ctx.ranged ∧ x.ctx.signal < 281474976710656 ∧ within48 x.ctx.offset = true ∧ isExcess x.ctx.xRef
      ∧ within48 x.ctx.zeroShift = true ∧ x.cal.gathered ∧ x.cal.motion ≤ 4294967295 ∧ isS16 x.cal.oC
      ∧ field (errorBytes g) 27 1 = 1 := by decide

/-- ReadRequestsChangeOnlyTheAnswer: a whole read, the header alone, a read out of range, and the two axis numbers. -/
theorem witness_reads :
    Executing (serving (ask 2 2 0 [6]) base) .readTable (ask 2 2 0 [6]) ∧ readInRange 2 0 6 = true
      ∧ readInRange 6 32 1 = true ∧ readsHeader 6 32 1 = true ∧ readInRange 2 0 7 = false ∧ readInRange 0 0 1 = false
      ∧ ExecutingOn (serving (ask 0x18 5 0 []) base) .axisStatus (ask 0x18 5 0 []) 5
      ∧ Executing (serving (ask 0x18 6 0 []) base) .axisStatus (ask 0x18 6 0 []) ∧ 5 < (ask 0x18 6 0 []).subject
      ∧ Executing (serving (ask 1 0 0 []) base) .identify (ask 1 0 0 [])
      ∧ Executing (serving (ask 0x25 0 0 []) base) .queueStatus (ask 0x25 0 0 [])
      ∧ Executing (serving (ask 0x30 0 0 []) base) .readErrors (ask 0x30 0 0 [])
      ∧ Executing (serving (ask 0x32 0 0 []) base) .readCounters (ask 0x32 0 0 []) := by decide

/-- SourceWritesFollowTheThreeSteps: each of the four ends. -/
theorem witness_source_writes :
    let pair : List Byte := sourceBytes (some ⟨9, 1, true, .samplePair 0 100⟩)
    let r := ask 3 1 15 pair
    Writing (serving r base) 1 r ∧ r.index = (15 : Fin 16).val ∧ 10 ≤ r.args.length
      ∧ sourceOf r.args = some (some ⟨9, 1, true, .samplePair 0 100⟩)
      ∧ 16 ≤ (ask 3 1 16 pair).index ∧ sourceOf (pair.set 2 251) = none
      ∧ ((withAxis counting base).axes[(0 : AxisId)]).ctx.state ≠ .off
      ∧ entriesClash ⟨9, 1, true, .samplePair 0 100⟩ ⟨9, 0, true, .samplePair 0 100⟩ = true
      ∧ entriesClash ⟨9, 1, true, .samplePair 0 100⟩ ⟨9, 1, true, .marker 0 none⟩ = false := by decide

/-- AxisTableWritesNeedAnAxisInOff: both tables, in OFF and not, in range and not. -/
theorem witness_axis_writes :
    let r := ask 3 2 5 (axisSettingsBytes {})
    let n := ask 3 3 383 [128]
    Writing (serving r base) 2 r ∧ r.index = (5 : AxisId).val ∧ 43 ≤ r.args.length ∧ axisSettingsOf r.args = some {}
      ∧ Writing (serving n base) 3 n ∧ n.index = 64 * (5 : AxisId).val + (63 : Fin 64).val ∧ 1 ≤ n.args.length
      ∧ signedField n.args 0 1 = -128
      ∧ (base.axes[(5 : AxisId)]).ctx.state = .off ∧ ((withAxis counting base).axes[(0 : AxisId)]).ctx.state ≠ .off
      ∧ axisSettingsOf [] = none ∧ 384 ≤ (ask 3 3 384 []).index := by decide

/-- ScalingAndCaptureWritesReplaceTheEntry and ArmedCaptureRefusesTableWrites: in range at the last index, and out of
range. -/
theorem witness_entry_writes :
    let armed : State := { base with cap := { base.cap with state := .armed } }
    let c := ask 3 4 3 (compositeBytes (.weighted 0 1 8192 8192 true))
    let w := ask 3 6 31 (windowEntryBytes {})
    let h := ask 3 6 32 (windowHeaderBytes {})
    let m := ask 3 7 12 (capMapBytes { mask := 1023 })
    Writing (serving c base) 4 c ∧ compositeOf c.args = some (.weighted 0 1 8192 8192 true)
      ∧ inputsEqual (.weighted 0 1 8192 8192 true) = false ∧ base.cap.state ≠ .armed ∧ armed.cap.state = .armed
      ∧ (let g := ask 3 5 3 ((groupBytes {}).take 12)
         Writing (serving g base) 5 g ∧ groupSettingsOf g.args = some ⟨0, 0, 100000000⟩)
      ∧ Writing (serving w armed) 6 w ∧ 14 ≤ w.args.length ∧ windowEntryOf w.args = some {}
      ∧ windowHeaderOf h.args = some {} ∧ 8 ≤ h.args.length ∧ h.index = 32
      ∧ Writing (serving m base) 7 m ∧ capMapOf m.args = some { mask := 1023 } ∧ 3 ≤ m.args.length
      ∧ (let j := ask 3 8 3 (compareSlotBytes {})
         Writing (serving j base) 8 j ∧ compareSlotOf j.args = some {} ∧ 11 ≤ j.args.length)
      ∧ compositeOf [3] = none ∧ 32 < (ask 3 6 33 []).index ∧ windowEntryOf [] ≠ none ∧ capMapOf [0, 4, 0] = none
      ∧ windowEntryOf [0, 0, 0, 0, 0, 0, 2] = none ∧ windowHeaderOf [0, 0, 0, 0, 0, 0, 33] = none := by decide

/-- ArmedCaptureRefusesTableWrites and MonitorDeliveryAndTimingWritesActAtOnce: a composite of one axis, and writes out of
range of each table with an index, a length and a value of its own. -/
theorem witness_refused_writes :
    let c := ask 3 4 3 (compositeBytes (.diffRatio 2 2 60))
    Writing (serving c base) 4 c ∧ compositeOf c.args = some (.diffRatio 2 2 60) ∧ base.cap.state ≠ .armed
      ∧ compositeOf (compositeBytes (.weighted 1 1 8192 8192 true)) = some (.weighted 1 1 8192 8192 true)
      ∧ Writing (serving (ask 3 5 4 []) base) 5 (ask 3 5 4 []) ∧ groupSettingsOf (List.replicate 12 255) = none
      ∧ Writing (serving (ask 3 8 4 []) base) 8 (ask 3 8 4 []) ∧ compareSlotOf (List.replicate 11 255) = none
      ∧ 23 ≤ (ask 3 9 23 [0]).index ∧ 7 < field (ask 3 9 0 [8]).args 0 1 ∧ 8 ≤ (ask 3 10 8 [0]).index
      ∧ 27 < field (ask 3 10 0 [28]).args 0 1 ∧ (ask 3 11 1 []).index ≠ 0
      ∧ deliveryOf (deliveryBytes { reader := 251 }) = none ∧ timingOf (timingBytes 999 50) = none
      ∧ timingOf (timingBytes 1000 49) = none ∧ (ask 3 12 0 [0]).args.length < 6 := by decide

/-- MonitorDeliveryAndTimingWritesActAtOnce: the ends of the ranges, and the timer at a new limit. -/
theorem witness_monitor_writes :
    let late : State := { base with cpt := { base.cpt with timer := 50 } }
    let d := ask 3 11 0 (deliveryBytes { reader := 250, watermark := 128 })
    let t := ask 3 12 0 (timingBytes 1000 50)
    Writing (serving (ask 3 9 22 [7]) base) 9 (ask 3 9 22 [7]) ∧ field (ask 3 9 22 [7]).args 0 1 = 7
      ∧ Writing (serving (ask 3 10 7 [27]) base) 10 (ask 3 10 7 [27]) ∧ field (ask 3 10 7 [27]).args 0 1 = 27
      ∧ Writing (serving d base) 11 d ∧ deliveryOf d.args = some { reader := 250, watermark := 128 }
      ∧ Writing (serving t base) 12 t ∧ timingOf t.args = some (1000, 50) ∧ 6 ≤ t.args.length
      ∧ base.cpt.timer < 50 ∧ late.cpt.station ≠ 0 ∧ late.cpt.down = false ∧ 50 ≤ late.cpt.timer := by decide

/-- The requests that name an axis: an axis in OFF and enabled, one that counts, one SLIPPED, one armed, one whose
calibration runs, and an axis number above 5. -/
theorem witness_axis_requests :
    let off := withAxis {} base
    let on := withAxis counting base
    let zeroed := withAxis { counting with zero := .waiting } base
    let run := on.modAxis 0 fun x => { x with cal := { outcome := .running, required := 2, sampleLimit := 1024 } }
    let on0 (code : Nat) (args : List Byte) (op : RequestOp) : Prop :=
      ExecutingOn (serving (ask code 0 0 args) on) op (ask code 0 0 args) 0
    on0 0x10 [] .axisStart ∧ on0 0x11 [] .axisStop ∧ on0 0x15 [] .accept ∧ on0 0x12 [] .zeroAtReference
      ∧ on0 0x13 [] .zeroCancel ∧ on0 0x14 (leInt 6 (-5)) .preset ∧ on0 0x16 (leBytes 1 2 ++ leBytes 4 1024) .calibrate
      ∧ on0 0x17 [] .calibrateAbort
      ∧ (off.axes[(0 : AxisId)]).ctx.state = .off ∧ (off.axes[(0 : AxisId)]).settings.enable = true
      ∧ (base.axes[(0 : AxisId)]).settings.enable = false
      ∧ ((withAxis { counting with state := .slipped } base).axes[(0 : AxisId)]).ctx.state = .slipped
      ∧ (on.axes[(0 : AxisId)]).ctx.counting = true ∧ (zeroed.axes[(0 : AxisId)]).ctx.zero ≠ .none
      ∧ (run.axes[(0 : AxisId)]).cal.outcome = .running
      ∧ field (ask 0x16 0 0 (leBytes 1 255 ++ leBytes 4 1048576)).args 1 4 ≤ 1048576
      ∧ Executing (serving (ask 0x11 6 0 []) on) .axisStop (ask 0x11 6 0 []) ∧ 5 < (ask 0x11 6 0 []).subject := by
  decide

/-- AxisStopResolvesItsFieldsOff: an entry that is completed by the stop, one that goes on waiting for another axis, and a
calibration that runs. -/
theorem witness_axis_stop :
    let r := ask 0x11 0 0 []
    let both : Entry := { anEntry 900 with
      mask := 3, raw := ((Vector.replicate 6 none).set 0 (some .waiting)).set 1 (some .waiting) }
    let s := (withAxis counting { base with cap := { base.cap with entries := [anEntry 900, both] } }).modAxis 0 fun x =>
      { x with cal := { outcome := .running, required := 2, sampleLimit := 1024 } }
    ExecutingOn (serving r s) .axisStop r 0 ∧ (s.axes[(0 : AxisId)]).ctx.state ≠ .off
      ∧ leaves (exec .axisStop (serving r s)) (fun t =>
          t.bus.records.map (·.fields) == [[⟨0, .off, 0⟩]]
            && t.cap.entries.map (fun e => (e.raw[(0 : AxisId)], e.raw[(1 : AxisId)]))
              == [(some (.absent .off), some .waiting)]
            && t.bus.sources == [⟨.axe 0, .operationEnded⟩]) = true := by decide

/-- PresetMakesThePositionTheValue: V at the limit and beyond it, and an offset in range and out of it. -/
theorem witness_preset :
    let x : AxisSettings := { fVac := 4294967295 }
    within48 (signedField (leInt 6 140737488355327) 0 6) = true
      ∧ within48 (signedField (leInt 6 (-140737488355328)) 0 6) = false
      ∧ within48 (140737488355327 - signedLength x 0 0) = true
      ∧ within48 (140737488355327 - signedLength x (-1000) 0) = false := by decide

/-- PresetMakesThePositionTheValue: of a ring of two entries only the newest becomes referenced. -/
theorem witness_preset_ring :
    let r := ask 0x14 0 0 (leInt 6 (-5))
    let older : HistEntry := ⟨500, 1000, true, false⟩
    let s := serving r (withAxis { counting with ring := [older] ++ [⟨600, 1100, true, false⟩] } base)
    ExecutingOn s .preset r 0 ∧ leaves (exec .preset s)
      (fun t => (t.axes[(0 : AxisId)]).ctx.ring == [older, ⟨600, 1100, true, true⟩]) = true := by decide

/-- CalibrationsStartAbortAndTimeOut, its last clause: one sample before the limit. -/
theorem witness_calibration_limit :
    let s := base.modAxis 0 fun x => { x with ctx := counting, cal := { outcome := .running, sampleLimit := 1024, seen := 1023 } }
    (s.axes[(0 : AxisId)]).cal.outcome = .running
      ∧ (s.axes[(0 : AxisId)]).cal.sampleLimit = (s.axes[(0 : AxisId)]).cal.seen + 1 := by decide

/-- CalibrationsStartAbortAndTimeOut, its last clause: a calibration that does not run; one that goes on and one that times
out at a weak sample; a strong sample with not enough motion, and the five rejections and the installation of one with
enough, by their reasons. -/
theorem witness_calibration_feed :
    let run (r : CalRecord) (wLo : Nat) : State := base.modAxis 0 fun x =>
      { x with settings := { x.settings with wLo := wLo }, ctx := { counting with lastC := 200, lastS := 0 }, cal := r }
    let full : CalRecord := {
      outcome := .running, required := 2, sampleLimit := 1024, seen := 9, motion := 8192, quadrants := 15
      extremes := true, maxC := 10000, minC := -10000, maxS := 10000, minS := -10000 }
    let ends (r : CalRecord) (wLo : Nat) (outcome : CalOutcome) (reason : Nat) : Bool :=
      let x := (offerToCalibration (run r wLo) 0 (some (200, 0, 5, 100))).axes[(0 : AxisId)]
      x.cal.outcome == outcome && x.cal.reason == reason
    base.axes[(0 : AxisId)].cal.outcome ≠ .running
      ∧ ((offerToCalibration (run full 0) 0 none).axes[(0 : AxisId)]).cal.seen = 10
      ∧ ((offerToCalibration (run { full with seen := 1023 } 0) 0 none).axes[(0 : AxisId)]).cal.outcome = .timeout
      ∧ ends { full with motion := 0 } 0 .running 0 = true ∧ ends { full with motion := 0, seen := 1023 } 0 .timeout 6 = true
      ∧ ends full 10001 .rejected 1 = true ∧ ends { full with maxS := 0, minS := 0 } 0 .rejected 2 = true
      ∧ ends { full with maxS := 2000, minS := -2000 } 0 .rejected 3 = true
      ∧ ends { full with sAtMaxC := 9000, sAtMinC := -9000 } 0 .rejected 4 = true
      ∧ ends { full with maxC := 10200, minC := -9800 } 0 .rejected 5 = true ∧ ends full 0 .installed 0 = true := by
  decide +kernel

/-- ArmMakesItsTestsInOrder: a configuration that passes, and one that fails each test. -/
theorem witness_arm :
    let mapped : State := { base with cap := { base.cap with map := base.cap.map.set 0 { mask := 64 } } }
    let axed : State := { base with cap := { base.cap with header := { axis := 6 } } }
    let flat : State := { base with cap := { base.cap with header := { valid := 1 } } }
    Executing (serving (ask 0x20 0 0 []) base) .arm (ask 0x20 0 0 []) ∧ armStatus base = .done
      ∧ (mapped.cap.map[(0 : SourceId)]).mask.getLsbD 6 = true ∧ mapped.scu.composites[(0 : Fin 4)] = .unused
      ∧ armStatus mapped = .refusedRange ∧ armStatus axed = .refusedRange
      ∧ ¬(flat.cap.header.base < (flat.cap.windows[(0 : Fin 32)]).limit) ∧ armStatus flat = .refusedOrder := by decide

/-- StopCaptureEmptiesThePendingList: an entry with a mark whose axis is RESOLVING for it. -/
theorem witness_stop_capture :
    let r := ask 0x21 0 0 []
    let s := withAxis { counting with zero := .resolving 0 } { base with
      cap := { base.cap with entries := [{ anEntry 900 with zeroMark := some 0 }] } }
    Executing (serving r s) .stopCapture r ∧ s.bus.zeroMsgs[(0 : AxisId)] = []
      ∧ leaves (exec .stopCapture (serving r s)) (fun t => (t.axes[(0 : AxisId)]).ctx.zero == .waiting) = true := by decide

/-- StopCaptureEmptiesThePendingList: an engine that an earlier message waits for. -/
theorem witness_stop_capture_behind :
    let r := ask 0x21 0 0 []
    let s := withAxis { counting with zero := .resolving 0 } { base with
      cap := { base.cap with entries := [{ anEntry 900 with zeroMark := some 0 }] }
      bus := { zeroMsgs := (Vector.replicate 6 []).set 0 [.placed 0 1] } }
    Executing (serving r s) .stopCapture r ∧ s.bus.zeroMsgs[(0 : AxisId)] ≠ []
      ∧ leaves (exec .stopCapture (serving r s)) (fun t => (t.axes[(0 : AxisId)]).ctx.zero == .resolving 0
          && t.bus.zeroMsgs[(0 : AxisId)] == [.placed 0 1, .removed 0]) = true := by decide

/-- ManualCaptureTakesATrigger: each capture state, an empty mask, a full list, and a trigger that waits. -/
theorem witness_manual_capture :
    let r := ask 0x22 0 0 (leBytes 6 900)
    let s := withAxis counting { base with
      cap := { base.cap with state := .armed, map := base.cap.map.set 12 { mask := 1#10 <<< 0 } } }
    let full : State := { s with cap := { s.cap with entries := List.replicate 16 (anEntry 900) } }
    Executing (serving r s) .manualCapture r ∧ 10 ≤ r.payload.length ∧ timeField r.args 0 = 900
      ∧ (s.cap.map[(12 : SourceId)]).mask = 1#10 <<< (0 : AxisId).val ∧ (base.cap.map[(12 : SourceId)]).mask = 0
      ∧ s.cap.entries.length < 16 ∧ 16 ≤ full.cap.entries.length
      ∧ (s.axes[(0 : AxisId)]).ctx.ring ≠ []
      ∧ (∀ h ∈ (s.axes[(0 : AxisId)]).ctx.ring, later 900 h.time = true ∧ later h.time 900 = false)
      ∧ later s.cpt.observed (after 900 s.cap.timeout) = false
      ∧ base.cap.state = .stopped ∧ ({ base.cap with state := .halted } : Cap).state = .halted := by decide

/-- DrainAndFlushFollowTheQueue: the reader and another station, the ends of the count, and a drain that runs. -/
theorem witness_drain :
    let s : State := { queued 3 base with rqu := { (queued 3 base).rqu with delivery := { reader := 1 } } }
    Executing (serving (ask 0x23 0 0 [128]) s) .drain (ask 0x23 0 0 [128])
      ∧ (ask 0x23 0 0 [128]).source = s.rqu.delivery.reader ∧ s.rqu.delivery.reader ≠ 0 ∧ s.rqu.drain = 0
      ∧ field (ask 0x23 0 0 [128]).args 0 1 = 128 ∧ 128 < field (ask 0x23 0 0 [129]).args 0 1
      ∧ (ask 0x23 0 0 []).source ≠ base.rqu.delivery.reader ∧ 0 < ({ s.rqu with drain := 1 } : Rqu).drain
      ∧ Executing (serving (ask 0x24 0 0 []) s) .flushQueue (ask 0x24 0 0 []) := by decide

/-- ClearRequestsClearWhatTheMaskNames: the largest mask, and the undefined ones at both ends. -/
theorem witness_clear :
    let r := ask 0x31 0 0 (leBytes 4 0x03FFFFFE)
    Executing (serving r base) .clearErrors r ∧ (field r.args 0 4).testBit 0 = false ∧ field r.args 0 4 < 67108864
      ∧ (field (leBytes 4 1) 0 4).testBit 0 = true ∧ 67108864 ≤ field (leBytes 4 67108864) 0 4
      ∧ Executing (serving (ask 0x33 0 0 [255]) base) .clearCounters (ask 0x33 0 0 [255]) := by decide

/-- UnseenSamplesChangeNoAxis: a sample for an axis in OFF, a stale one, and a decay count at its interval. -/
theorem witness_unseen :
    let m : SampleMsg := ⟨700, 0, 0, false, 100⟩
    let s : State := { base with bus := { samples := (Vector.replicate 6 []).set 0 [m] } }
    let u := withAxis { counting with seenMark := true, tSeen := 700, decay := 4095 } s
    Arrives s 0 m [] ∧ (s.axes[(0 : AxisId)]).ctx.state = .off ∧ Arrives u 0 m [] ∧ (u.axes[(0 : AxisId)]).ctx.state ≠ .off
      ∧ (u.axes[(0 : AxisId)]).ctx.seenMark = true ∧ later m.time (u.axes[(0 : AxisId)]).ctx.tSeen = false
      ∧ (u.axes[(0 : AxisId)]).settings.decayInterval = (u.axes[(0 : AxisId)]).ctx.decay + 1 := by decide

/-- UnseenSamplesChangeNoAxis: a weak sample that is seen, at the step of the bucket to its threshold. -/
theorem witness_weak_sample :
    let m : SampleMsg := ⟨700, 1, 0, false, 100⟩
    let s := withAxis { counting with bucket := 63 } { base with bus := { samples := (Vector.replicate 6 []).set 0 [m] } }
    Arrives s 0 m [] ∧ (s.axes[(0 : AxisId)]).ctx.state ≠ .off ∧ (s.axes[(0 : AxisId)]).ctx.seenMark = false
      ∧ judgedWeak (s.axes[(0 : AxisId)]).settings false false (stage1 (s.axes[(0 : AxisId)]).settings 1 0) = true
      ∧ (s.axes[(0 : AxisId)]).settings.bucketThreshold = 64
      ∧ leaves (exec (.sampleArrival 0) s) (fun t => t.bus.raises == [⟨.axe 0, .signalDegraded, 0, 64, 0⟩]
          && (t.axes[(0 : AxisId)]).ctx.weak && (t.axes[(0 : AxisId)]).ctx.count == 1000) = true := by decide

/-- StrongSamplesMoveTheCount, its second clause: a sample in ACQUIRE, one in LOST, and one that resolves a field that
waits for the axis. -/
theorem witness_strong_sample_states :
    let m : SampleMsg := ⟨900, 20412, 0, false, 100⟩
    let s (state : AxisState) : State := withAxis { counting with state := state, tAcc := 500 } { base with
      cap := { base.cap with entries := [anEntry 700] }
      bus := { samples := (Vector.replicate 6 []).set 0 [m] } }
    judgedWeak ((s .lost).axes[(0 : AxisId)]).settings false false (stage1 {} 20412 0) = false
      ∧ ((s .lost).axes[(0 : AxisId)]).ctx.seenMark = false
      ∧ leaves (exec (.sampleArrival 0) (s .acquire)) (fun t => (t.axes[(0 : AxisId)]).ctx.state == .free) = true
      ∧ leaves (exec (.sampleArrival 0) (s .lost)) (fun t => (t.axes[(0 : AxisId)]).ctx.state == .slipped
          && t.fmn.first == some ⟨.slipGap, 0, 0, 4⟩) = true
      ∧ leaves (exec (.sampleArrival 0) (s .free)) (fun t => t.cap.entries.isEmpty
          && t.bus.records.map (fun r => r.fields.map (·.axis)) == [[0]]) = true := by decide +kernel

/-- StrongSamplesMoveTheCount: a strong sample at the gap limit and one beyond it. -/
theorem witness_strong_sample :
    let m (t : Time) : SampleMsg := ⟨t, 20412, 11770, false, 100⟩
    let s (t : Time) : State := withAxis { counting with tAcc := 500 } { base with
      bus := { samples := (Vector.replicate 6 []).set 0 [m t] } }
    Arrives (s 900) 0 (m 900) [] ∧ ((s 900).axes[(0 : AxisId)]).ctx.counting = true
      ∧ ((s 900).axes[(0 : AxisId)]).ctx.seenMark = false
      ∧ judgedWeak {} false false (stage1 {} 20412 11770) = false
      ∧ ((s 900).axes[(0 : AxisId)]).cal.outcome ≠ .running ∧ (s 900).entriesUnresolved
      ∧ headPeriods 500 900 100 = 4 ∧ headPeriods 500 950 100 = 5 := by decide

/-- SilenceAndChainLossLoseCountingAxes: a passed deadline and one that is not, a waiting axis, and the loss. -/
theorem witness_silence :
    let s (e : LinkEvent) (c : AxisContext) : State := withAxis c { base with
      bus := { linkEvents := (Vector.replicate 6 []).set 0 [e] } }
    (s (.advance 5001) counting).bus.linkEvents[(0 : AxisId)] = [.advance 5001]
      ∧ later 5001 (after 0 5000) = true ∧ later 5000 (after 0 5000) = false
      ∧ ((s .loss counting).axes[(0 : AxisId)]).ctx.counting = true
      ∧ ((s .loss { state := .acquire }).axes[(0 : AxisId)]).ctx.silenceMark = false
      ∧ (s .loss counting).bus.linkEvents[(0 : AxisId)] = [.loss]
      ∧ ((s .loss {}).axes[(0 : AxisId)]).ctx.counting = false := by decide

/-- ZeroOutcomesTieTheCount: a notice within the arming, and each outcome for the entry and for another. -/
theorem witness_zero_outcome :
    let s (m : ZeroMsg) (z : ZeroState) : State := withAxis { counting with zero := z } { base with
      bus := { zeroMsgs := (Vector.replicate 6 []).set 0 [m] } }
    (s (.placed 3 0) .waiting).bus.zeroMsgs[(0 : AxisId)] = [.placed 3 0]
      ∧ ((s (.placed 3 0) .waiting).axes[(0 : AxisId)]).arming = 0
      ∧ leaves (exec (.zeroNotice 0) (s (.placed 3 0) .waiting))
          (fun t => (t.axes[(0 : AxisId)]).ctx.zero == .resolving 3) = true
      ∧ leaves (exec (.zeroOutcome 0) (s (.outcome 3 (.bracket 1000 false 500)) (.resolving 3)))
          (fun t => (t.axes[(0 : AxisId)]).ctx.state == .referenced && (t.axes[(0 : AxisId)]).ctx.count == 0) = true
      ∧ leaves (exec (.zeroOutcome 0) (s (.outcome 3 (.bracket 1000 true 500)) (.resolving 3)))
          (fun t => (t.axes[(0 : AxisId)]).ctx.zero == .waiting && t.bus.raises.length == 1) = true
      ∧ ((s (.outcome 3 .late) (.resolving 4)).axes[(0 : AxisId)]).ctx.zero ≠ .resolving 3
      ∧ ((s (.outcome 3 .late) (.resolving 3)).axes[(0 : AxisId)]).ctx.zero = .resolving 3 := by decide

/-- ZeroOutcomesTieTheCount: the notice of a removed entry, and a clean outcome taken in LOST. -/
theorem witness_zero_removed_and_lost :
    let s (m : ZeroMsg) (state : AxisState) : State := withAxis { counting with state := state, zero := .resolving 3 } {
      base with bus := { zeroMsgs := (Vector.replicate 6 []).set 0 [m] } }
    leaves (exec (.zeroNotice 0) (s (.removed 3) .free)) (fun t => (t.axes[(0 : AxisId)]).ctx.zero == .waiting) = true
      ∧ leaves (exec (.zeroNotice 0) (s (.removed 4) .free))
          (fun t => (t.axes[(0 : AxisId)]).ctx.zero == .resolving 3) = true
      ∧ leaves (exec (.zeroOutcome 0) (s (.outcome 3 (.bracket 1000 false 500)) .lost))
          (fun t => (t.axes[(0 : AxisId)]).ctx.zero == .waiting
            && t.bus.raises == [⟨.axe 0, .referenceUnsure, 0, 2, 0⟩]) = true := by decide

/-- ZeroFlagsTheRunSinceTheLastSlip: the slip-flagged entry itself is flagged, an older one is not. -/
theorem witness_zero_flags :
    let ring : List HistEntry := [⟨1, 5, false, false⟩, ⟨2, 6, true, false⟩, ⟨3, 7, false, false⟩]
    ring[0]? = some ⟨1, 5, false, false⟩ ∧ ring[1]? = some ⟨2, 6, true, false⟩
      ∧ flagReferenced ring = [⟨1, 5, false, false⟩, ⟨2, 6, true, true⟩, ⟨3, 7, false, true⟩] := by decide

/-- AirValuesAreAppliedUnderTheSlewLimit: the first row of the example, its clamped value, and the stale deadline. -/
theorem witness_air_values :
    let g : EnvGroup := { default_ := 270000, slewLimit := 500, applied := 270000, lastTime := 11500000, stale := false }
    let s (v : Int) : State := { base with
      scu := { groups := (Vector.replicate 4 {}).set 1 g }, bus := { envValues := [⟨1, v⟩] } }
    isExcess 271500 ∧ (500 : Int) < |271500 - g.applied| ∧ |270500 - g.applied| ≤ 500
      ∧ leaves (exec .envValue (s 271500)) (fun t => (t.scu.groups[(1 : GroupId)]).applied == 270500) = true
      ∧ leaves (exec .envValue (s 1250000)) (fun t => t.bus.raises.length == 2) = true ∧ ¬isExcess 1250000
      ∧ later 111500500 (after g.lastTime g.staleLimit) = true ∧ later 111500000 (after g.lastTime g.staleLimit) = false
      ∧ ({ base with bus := { scuAdvances := [111500500] } } : State).bus.scuAdvances = [111500500] := by decide

/-- R85 (log 41): a value equal to the applied value raises nothing and replaces the last received value. -/
theorem test_equal_air_value :
    leaves (exec .envValue { base with
        scu := { groups := (Vector.replicate 4 {}).set 1 { applied := 500, lastValue := 900 } }
        bus := { envValues := [⟨1, 500⟩] } })
      (fun t => (t.scu.groups[(1 : GroupId)]).lastValue == 500 && t.bus.raises.isEmpty) = true := by decide

/-- AirValuesAreAppliedUnderTheSlewLimit: values out of range, the nearest at each end, with no slew limit and with one that
the nearer end lies within and beyond; and two groups that go stale at one advance. -/
theorem witness_air_values_out_of_range :
    let s (slew : Nat) (v : Int) : State := { base with
      scu := { groups := (Vector.replicate 4 {}).set 1 { slewLimit := slew, applied := 999000 } }
      bus := { envValues := [⟨1, v⟩] } }
    let becomes (slew : Nat) (v applied : Int) (raises : Nat) : Bool := leaves (exec .envValue (s slew v))
      fun t => (t.scu.groups[(1 : GroupId)]).applied == applied && t.bus.raises.length == raises
    ¬isExcess 1000001 ∧ ¬isExcess (-1000001) ∧ becomes 0 1000001 1000000 1 = true
      ∧ becomes 0 (-1000001) (-1000000) 1 = true ∧ becomes 1000 1000001 1000000 1 = true
      ∧ becomes 999 1000001 999999 2 = true
      ∧ leaves (exec .groupStale { base with
          scu := { groups := Vector.replicate 4 { stale := false } }, bus := { scuAdvances := [100000001] } })
          (fun t => t.bus.raises.map (·.subject) == [0, 1, 2, 3]) = true := by decide

/-- TriggersFollowTheCaptureState: an ordinary reference event; one whose axis is WAITING but whose RESTART CAP has taken
already; a zeroing that also requests a record; and a trigger that joins the list, with room and without. -/
theorem witness_trigger_takes :
    let mark : MarkerMsg := ⟨7, .fall, 900, some 0⟩
    let s (zero : ZeroState) (left : List Block) : State := withAxis { counting with zero := zero } { base with
      cap := { base.cap with state := .armed, map := base.cap.map.set 7 { mask := 3 } }
      mga := { restartLeft := left }, bus := { markers := [mark] } }
    let takes (zero : ZeroState) (left : List Block) (zeroMark : Option AxisId) : Bool :=
      leaves (exec .referenceEvent (s zero left)) fun t =>
        t.cap.entries.map (fun e => (e.zeroMark, e.record)) == [(zeroMark, true)]
    takes .none [] none = true ∧ takes .waiting [.axe 0] none = true ∧ takes .waiting [.axe 0, .cap] (some 0) = true
      ∧ takes .waiting [] (some 0) = true
      ∧ leaves (exec .edgeTrigger { s .none [] with bus := { markers := [{ mark with reference := none }] } })
          (fun t => t.cap.entries.map (·.zeroMark) == [none]) = true
      ∧ 16 ≤ (List.replicate 16 (anEntry 900)).length ∧ base.cap.entries.length < 16 := by decide

/-- TriggersFollowTheCaptureState: each clause's state. -/
theorem witness_triggers :
    let edge : MarkerMsg := ⟨7, .rise, 900, none⟩
    let mark : MarkerMsg := ⟨0, .fall, 900, some 0⟩
    let s := withAxis { counting with zero := .waiting } { base with
      cap := { base.cap with state := .halted, map := base.cap.map.set 7 { mask := 1 } }, bus := { markers := [edge] } }
    let u : State := { s with bus := { markers := [mark] } }
    s.bus.markers = [edge] ∧ (s.cap.map[(7 : SourceId)]).mask ≠ 0 ∧ (s.cap.map[(0 : SourceId)]).mask = 0
      ∧ s.cap.state = .halted ∧ 16 ≤ (List.replicate 16 (anEntry 900)).length
      ∧ mark.reference = some 0 ∧ (u.axes[(0 : AxisId)]).ctx.zero = .waiting ∧ u.cap.entries.length < 16
      ∧ u.cap.state ≠ .armed ∧ (u.axes[(0 : AxisId)]).ctx.counting = true ∧ (u.axes[(0 : AxisId)]).ctx.ring ≠ []
      ∧ (∀ h ∈ (u.axes[(0 : AxisId)]).ctx.ring, later 900 h.time = true ∧ later h.time 900 = false)
      ∧ later u.cpt.observed (after 900 u.cap.timeout) = false := by decide

/-- BracketedEdgesBecomeRecordsAtOnce: an event between two entries, and one at an entry's time. -/
theorem witness_bracketed_edge :
    let m : MarkerMsg := ⟨7, .rise, 550, none⟩
    let ring : List HistEntry := [⟨500, 1000, true, false⟩, ⟨600, 1100, false, false⟩]
    let s := withAxis { counting with ring := ring } { base with
      cap := { base.cap with state := .armed, map := base.cap.map.set 7 { mask := 1#10 <<< 0 } }
      bus := { markers := [m] } }
    s.bus.markers = [m] ∧ m.reference = none ∧ s.cap.state = .armed ∧ s.cap.entries.length < 16
      ∧ s.cap.map[(7 : SourceId)] = { mask := 1#10 <<< (0 : AxisId).val, gated := false }
      ∧ bracketBefore ring 550 = some ⟨500, 1000, true, false⟩ ∧ bracketAfter ring 550 = some ⟨600, 1100, false, false⟩
      ∧ bracketBefore ring 600 = bracketAfter ring 600 := by decide

/-- BracketedEdgesBecomeRecordsAtOnce, its clauses about completed entries: one without a record request, one that is not
gated, and gated ones whose window axis has a value and has none. -/
theorem witness_completed_entry :
    let e : Entry := { anEntry 900 with raw := (Vector.replicate 6 none).set 0 (some (.value .ok 50 true)) }
    let w : WindowEntry := { limit := 100, gap := false, zone := 9, sources := 1, polarity := .rise, spacing := 0 }
    let s : State := { base with cap := { base.cap with
      header := { base := 0, valid := 1 }, windows := base.cap.windows.set 0 w } }
    let made (e : Entry) : List (Nat × Bool × Bool) :=
      (completeEntry s e).bus.records.map fun r => (r.zone, r.ungated, r.envStale)
    made { e with record := false } = [] ∧ made e = [(255, false, true)]
      ∧ e.source.val = (0 : Fin 8).val ∧ e.field 0 = some (.value .ok 50 true)
      ∧ made { e with windowAxis := some 0, gated := true } = [(9, false, true)]
      ∧ made { e with windowAxis := some 0, gated := true, raw := e.raw.set 0 (some (.absent .timeout)) }
          = [(255, true, false)] := by decide

/-- BracketedEdgesBecomeRecordsAtOnce, its last clause: no tainting raise on its way, and one alone, with one more behind
it, on a tainting and halting route. -/
theorem witness_tainting_raise :
    let m : RaiseMsg := ⟨.axe 0, .slipJump, 0, 7, 1⟩
    let s (raises : List RaiseMsg) : State := { base with
      fmn := { routes := base.fmn.routes.set ErrorKind.slipJump.index.val ⟨true, true, true⟩ }
      bus := { raises := raises } }
    let x := ErrorKind.slipJump.index
    ((s [m]).fmn.routes[m.kind.index]).taint = true
      ∧ ((s []).fmn.routes[ErrorKind.frameCheck.index]).taint = false
      ∧ (s [m]).afterQuery.fmn.counts[x] = 2 ∧ (s [m]).afterQuery.fmn.flags[x] = true
      ∧ (s [m]).afterQuery.bus.halts = 2 ∧ (s [m]).afterQuery.bus.raises = [] := by decide

/-- GatingDecidesByTheFirstTest: the window's lower end belongs to it, its upper end does not, and each test's case. -/
theorem witness_gating :
    let w : WindowEntry := { limit := 100, gap := false, zone := 9, sources := 1, polarity := .rise, spacing := 10 }
    let s : State := { base with cap := { base.cap with
      header := { base := 0, valid := 1 }, windows := base.cap.windows.set 0 w
      lastEdge := base.cap.lastEdge.set 0 (some 50) } }
    gate s.cap 0 .rise 0 = .accepted 9 ∧ gate s.cap 0 .rise 100 = .outside ∧ gate s.cap 0 .rise (-1) = .outside
      ∧ gate s.cap 1 .rise 0 = .masked ∧ gate s.cap 0 .fall 0 = .masked ∧ gate s.cap 0 .rise 41 = .double
      ∧ gate s.cap 0 .rise 40 = .accepted 9
      ∧ gate { s.cap with windows := s.cap.windows.set 0 { w with gap := true } } 0 .rise 0 = .gap := by decide

/-- CaptureTimeoutsResolvePassedEntries: one entry past its deadline and one at it. -/
theorem witness_capture_timeout :
    let s : State := { base with
      cap := { base.cap with entries := [anEntry 100, anEntry 101] }, bus := { capAdvances := [20101] } }
    s.entriesUnresolved ∧ s.bus.capAdvances = [20101] ∧ later 20101 (after 100 s.cap.timeout) = true
      ∧ later 20101 (after 101 s.cap.timeout) = false
      ∧ leaves (exec .captureTimeout s) (fun t => t.cap.entries == [anEntry 101]
          && t.bus.raises == [⟨.cap, .captureTimeout, 0, 0, 0⟩]
          && t.bus.records.map (·.fields) == [[⟨0, .timeout, 0⟩]]) = true := by decide

/-- CompareSlotsFireAndHaltsStop: a periodic slot that fires late in HALTED, and a halt report. -/
theorem witness_compare :
    let s : State := { base with
      cap := { base.cap with
        state := .halted, slots := base.cap.slots.set 1 ⟨true, 7000100, 200⟩, map := base.cap.map.set 9 { mask := 1 } }
      bus := { slotChecks := [7000500], halts := 1 } }
    s.bus.slotChecks = [7000500] ∧ s.cap.state ≠ .armed ∧ 0 < s.bus.halts
      ∧ leaves (exec .compareFire s) (fun t => t.cap.slots[(1 : Fin 4)] == ⟨true, 7000700, 200⟩
          && t.bus.raises == [⟨.cap, .compareMissed, 9, 2, 1⟩]) = true := by decide

/-- CompareSlotsFireAndHaltsStop: the detail of 2^32 − 1 skipped firings, and more of them, as one jump can bring. -/
theorem witness_missed_detail :
    missedDetail 4294967295 = 4294967295 ∧ skippedFirings ⟨true, 0, 1⟩ 4294967296 = 4294967296
      ∧ later 0 4294967296 = false := by decide

/-- CompareSlotsFireAndHaltsStop: a slot whose next time is the link time takes a TIMED trigger in ARMED. -/
theorem witness_timed_trigger :
    let s : State := { base with
      cap := { base.cap with
        state := .armed, slots := base.cap.slots.set 3 ⟨true, 900, 0⟩, map := base.cap.map.set 11 { mask := 1 } }
      bus := { slotChecks := [900] } }
    later (s.cap.slots[(3 : Fin 4)]).next 900 = false ∧ (s.cap.map[(11 : SourceId)]).mask ≠ 0
      ∧ leaves (exec .compareFire s) (fun t => t.bus.records.map (fun r => (r.kind, r.source.val, r.time))
          == [(.timed, 11, 900)] && !(t.cap.slots[(3 : Fin 4)]).enable) = true := by decide

/-- RecordsAreQueuedOrDropped: room, and a full queue under each policy; an advance to examine. -/
theorem witness_records :
    let s : State := { base with bus := { records := [aRecord], rquAdvances := 1 } }
    let full := queued 128 s
    s.bus.records = [aRecord] ∧ s.rqu.queue.length < 128 ∧ 128 ≤ full.rqu.queue.length
      ∧ full.rqu.delivery.dropOldest = false ∧ full.rqu.queue = ⟨0, aRecord⟩ :: List.replicate 127 ⟨0, aRecord⟩
      ∧ ({ full.rqu.delivery with dropOldest := true } : Delivery).dropOldest = true ∧ 0 < s.bus.rquAdvances := by decide

/-- RaisesReportsAndSourcesAreTaken: a raise with one more behind it, a report and an attention source. -/
theorem witness_monitor :
    let s : State := { base with bus := {
      raises := [⟨.cap, .compareMissed, 9, 2, 1⟩], reports := [⟨.cpt, .goodFramesIn, 0⟩]
      sources := [⟨.rqu, .queueWatermark⟩] } }
    leaves (exec (.errorRaise .cap) s) (fun t => t.bus.raises == [⟨.cap, .compareMissed, 9, 2, 0⟩]) = true
      ∧ leaves (exec (.eventReport .cpt) s) (fun t => t.fmn.counters[0] == 1) = true
      ∧ leaves (exec (.attentionSourceRaise .rqu) s) (fun t => attentionPending t.fmn) = true := by decide

/-- RaisesReportsAndSourcesAreTaken: each oldest item behind another block's; attention by a flagged kind with its switch on
and off; and LINK lit and dark. -/
theorem witness_monitor_behind :
    let s : State := { base with bus := {
      raises := [⟨.cpt, .frameCheck, 0, 0, 0⟩, ⟨.cap, .compareMissed, 9, 2, 1⟩]
      reports := [⟨.rqu, .recordsQueued, 0⟩, ⟨.cpt, .goodFramesIn, 0⟩]
      sources := [⟨.axe 0, .operationEnded⟩, ⟨.rqu, .queueWatermark⟩] } }
    let flagged : Fmn := { flags := (Vector.replicate 23 false).set 3 true }
    (∀ x ∈ [(⟨.cpt, .frameCheck, 0, 0, 0⟩ : RaiseMsg)], x.source ≠ .cap)
      ∧ leaves (exec (.errorRaise .cap) s) (fun t => t.bus.raises
          == [⟨.cap, .compareMissed, 9, 2, 0⟩, ⟨.cpt, .frameCheck, 0, 0, 0⟩]) = true
      ∧ leaves (exec (.eventReport .cpt) s) (fun t => t.bus.reports == [⟨.rqu, .recordsQueued, 0⟩]) = true
      ∧ leaves (exec (.attentionSourceRaise .rqu) s) (fun t => t.bus.sources == [⟨.axe 0, .operationEnded⟩]) = true
      ∧ attentionPending flagged = true
      ∧ attentionPending { flagged with routes := Vector.replicate 23 ⟨false, true, true⟩ } = false
      ∧ linkOutput { base with cpt := { base.cpt with established := true } } = true ∧ linkOutput base = false := by decide

end Sys2Proof.Tests
end

section
/-! SUPPORT. Stage 4: the correction of a phase (R48) and the corrected phase (R49). -/

namespace Sys2Proof.Machine

/-- The straight line from a to b over 64 steps stays between its ends when rounded: the exact term lies between 0 and
b − a, and adding a half before the floor carries it past neither, whichever sign the difference has. -/
theorem interpolation_mem (a b : Int) {m : Nat} (hm : m ≤ 64) :
    min a b ≤ a + ((b - a) * m + 32) / 64 ∧ a + ((b - a) * m + 32) / 64 ≤ max a b := by
  have hm0 : (0 : Int) ≤ m := Int.natCast_nonneg m
  have hm1 : (m : Int) ≤ 64 := Int.ofNat_le.2 hm
  obtain hab | hba := le_total a b
  · have rising : 0 ≤ (b - a) * m := mul_nonneg (sub_nonneg.2 hab) hm0
    have notAbove : (b - a) * m ≤ (b - a) * 64 := mul_le_mul_of_nonneg_left hm1 (sub_nonneg.2 hab)
    omega
  · have falling : (b - a) * m ≤ 0 := mul_nonpos_of_nonpos_of_nonneg (sub_nonpos.2 hba) hm0
    have notBelow : (b - a) * 64 ≤ (b - a) * m := mul_le_mul_of_nonpos_left hm1 (sub_nonpos.2 hba)
    omega

section
variable {E : Vector Int 64} {p : Nat} {k k1 : Fin 64}

/-- R48's formula, with the two entries named by their positions in the table. -/
theorem phaseResidual_eq (hk : k.val = p / 64) (hk1 : k1.val = (p / 64 + 1) % 64) :
    phaseResidual E p = E[k] + ((E[k1] - E[k]) * (p % 64 : Nat) + 32) / 64 := by
  have inTable : p / 64 % 64 = p / 64 := Nat.mod_eq_of_lt (hk ▸ k.isLt)
  simp only [phaseResidual, inTable, Fin.getElem_fin, hk, hk1]

theorem phaseResidual_mem (hk : k.val = p / 64) (hk1 : k1.val = (p / 64 + 1) % 64) :
    min E[k] E[k1] ≤ phaseResidual E p ∧ phaseResidual E p ≤ max E[k] E[k1] := by
  rw [phaseResidual_eq hk hk1]
  exact interpolation_mem E[k] E[k1] (Nat.mod_lt p (by decide)).le

/-- At a phase that has an entry of its own the correction is that entry. -/
theorem phaseResidual_of_mod_eq_zero (hk : k.val = p / 64) (hk1 : k1.val = (p / 64 + 1) % 64) (hm : p % 64 = 0) :
    phaseResidual E p = E[k] := by
  rw [phaseResidual_eq hk hk1, hm]
  simp

theorem correctedPhase_cast (E : Vector Int 64) (p : Nat) :
    (correctedPhase E p : Int) = ((p : Int) - phaseResidual E p) % 4096 :=
  Int.toNat_of_nonneg (Int.emod_nonneg _ (by decide))

theorem correctedPhase_lt (E : Vector Int 64) (p : Nat) : correctedPhase E p < 4096 := by
  have := correctedPhase_cast E p
  omega

theorem correctedPhase_of_residual_zero (hp : p < 4096) (h : phaseResidual E p = 0) : correctedPhase E p = p := by
  have := correctedPhase_cast E p
  rw [h] at this
  omega

end

/-- Settles O15: the correction lies between its two entries because the interpolation does, and every other clause
follows from the formula of R48 or R49. -/
theorem correctionLiesBetweenTableEntries : Obligations.CorrectionLiesBetweenTableEntries := by
  unfold Obligations.CorrectionLiesBetweenTableEntries
  intro E p entries hp
  let k : Fin 64 := ⟨p / 64, by omega⟩
  let k1 : Fin 64 := ⟨(p / 64 + 1) % 64, Nat.mod_lt _ (by decide)⟩
  have hk : k.val = p / 64 := rfl
  have hk1 : k1.val = (p / 64 + 1) % 64 := rfl
  obtain ⟨low, high⟩ := phaseResidual_mem (E := E) hk hk1
  obtain ⟨minHere, maxHere⟩ := entries k
  obtain ⟨minNext, maxNext⟩ := entries k1
  have atLeast : -128 ≤ phaseResidual E p := (le_min minHere minNext).trans low
  have atMost : phaseResidual E p ≤ 127 := high.trans (max_le maxHere maxNext)
  refine ⟨k, k1, hk, hk1, phaseResidual_eq hk hk1, low, high, atLeast, atMost,
    phaseResidual_of_mod_eq_zero hk hk1, correctedPhase_cast E p, correctedPhase_lt E p, fun zeros => ?_⟩
  have between : 0 ≤ phaseResidual E p ∧ phaseResidual E p ≤ 0 := by
    simpa only [zeros, min_self, max_self] using And.intro low high
  exact correctedPhase_of_residual_zero hp (le_antisymm between.2 between.1)

end Sys2Proof.Machine
end

section
/-! SUPPORT. The referenced flags a zero sets in the history ring, oldest entry first (R109). -/

namespace Sys2Proof.Machine

/-- R109: some entry newer than the one at index i is slip-flagged. -/
def HasNewerSlip (ring : List HistEntry) (i : Nat) : Prop :=
  ∃ j x, i < j ∧ ring[j]? = some x ∧ x.slip = true

section

variable {ring : List HistEntry} {newest : HistEntry} {i : Nat}

theorem hasNewerSlip_concat :
    HasNewerSlip (ring ++ [newest]) i ↔ i < ring.length ∧ (newest.slip = true ∨ HasNewerSlip ring i) := by
  constructor
  · rintro ⟨j, x, newer, found, slip⟩
    have bound : j < ring.length + 1 := by simpa using (List.getElem?_eq_some_iff.mp found).1
    obtain inside | rfl := Nat.lt_succ_iff_lt_or_eq.mp bound
    · rw [List.getElem?_append_left inside] at found
      exact ⟨newer.trans inside, .inr ⟨j, x, newer, found, slip⟩⟩
    · rw [List.getElem?_concat_length, Option.some.injEq] at found
      exact ⟨newer, .inl (found ▸ slip)⟩
  · rintro ⟨older, slip | ⟨j, x, newer, found, slip⟩⟩
    · exact ⟨ring.length, newest, older, List.getElem?_concat_length, slip⟩
    · have inside : j < ring.length := (List.getElem?_eq_some_iff.mp found).1
      exact ⟨j, x, newer, (List.getElem?_append_left inside).trans found, slip⟩

/-- A zero flags the newest entry, and goes on to the older ones only when the newest is not slip-flagged. -/
theorem flagReferenced_concat :
    flagReferenced (ring ++ [newest])
      = (if newest.slip then ring else flagReferenced ring) ++ [{ newest with referenced := true }] := by
  cases slip : newest.slip <;> simp [flagReferenced, flagRun, slip]

@[simp] theorem length_flagReferenced : (flagReferenced ring).length = ring.length := by
  induction ring using List.reverseRecOn with
  | nil => rfl
  | append_singleton older newest ih =>
    rw [flagReferenced_concat]
    split <;> simp [ih]

theorem getElem?_flagReferenced_of_hasNewerSlip (newer : HasNewerSlip ring i) :
    (flagReferenced ring)[i]? = ring[i]? := by
  induction ring using List.reverseRecOn with
  | nil => rfl
  | append_singleton older newest ih =>
    obtain ⟨inside, slip⟩ := hasNewerSlip_concat.mp newer
    rw [flagReferenced_concat, List.getElem?_append_left inside]
    split
    · exact List.getElem?_append_left inside
    next noSlip =>
      rw [List.getElem?_append_left (by simpa using inside)]
      exact ih (slip.resolve_left noSlip)

theorem getElem?_flagReferenced_of_not_hasNewerSlip (noNewer : ¬HasNewerSlip ring i) :
    (flagReferenced ring)[i]? = ring[i]?.map ({ · with referenced := true }) := by
  induction ring using List.reverseRecOn with
  | nil => rfl
  | append_singleton older newest ih =>
    have sameLength : (if newest.slip then older else flagReferenced older).length = older.length := by
      split <;> simp
    rw [flagReferenced_concat]
    obtain inside | outside := lt_or_ge i older.length
    · obtain ⟨noSlip, noNewerSlip⟩ : ¬newest.slip = true ∧ ¬HasNewerSlip older i := by
        simpa [hasNewerSlip_concat, inside] using noNewer
      rw [List.getElem?_append_left (sameLength.symm ▸ inside), List.getElem?_append_left inside, if_neg noSlip,
        ih noNewerSlip]
    · rw [List.getElem?_append_right (sameLength.trans_le outside), List.getElem?_append_right outside, sameLength,
        ← List.getElem?_map, List.map_singleton]

end

/-- Settles O52: by induction on the ring from its newest entry, the flagging passes each entry that is not slip-flagged
and stops after the first that is. -/
theorem zeroFlagsTheRunSinceTheLastSlip : Obligations.ZeroFlagsTheRunSinceTheLastSlip := by
  unfold Obligations.ZeroFlagsTheRunSinceTheLastSlip
  intro ring
  refine ⟨length_flagReferenced, fun i h found => ⟨fun newer => ?_, fun noNewer => ?_⟩⟩
  · rw [getElem?_flagReferenced_of_hasNewerSlip newer, found]
  · rw [getElem?_flagReferenced_of_not_hasNewerSlip noNewer, found, Option.map_some]

end Sys2Proof.Machine
end

section
/-! SUPPORT. ARM: when each of its three tests passes (R134, R151), and how it is answered. -/

namespace Sys2Proof.Machine

/-! ### The answer placed -/

/-- An owner's refusal of an addressed request changes its answer and the reports only. -/
theorem place_plain_of_refuses {s : State} {r : Request} {status : Status} (addressed : r.broadcast = false)
    (refuses : statusRefuses status = true) :
    (plain s status).place r = { s with mga := answered s.mga r status [], bus := refusalReported s.bus } := by
  simp [Answer.place, plain, placeAnswer_eq, addressed, refuses, responseTo, answered, refusalReported]

/-- An addressed request answered without data and not refused leaves the owner's state with its answer. -/
theorem place_plain_of_not_refuses {s : State} {r : Request} {status : Status} (addressed : r.broadcast = false)
    (accepts : statusRefuses status = false) :
    (plain s status).place r = { s with mga := answered s.mga r status [] } := by
  simp [Answer.place, plain, placeAnswer_eq, addressed, accepts, responseTo, answered]

/-! ### Tests 1 and 2: the Capture Map and the window axis -/

theorem maskUsable_iff {u : Scu} {mask : BitVec 10} :
    maskUsable u mask = true ↔ ∀ c : Fin 4, mask.getLsbD (6 + c.val) = true → u.composites[c] ≠ .unused := by
  simp [maskUsable, imp_iff_not_or]

theorem isWeighted_iff {e : CompositeEntry} : isWeighted e = true ↔ ∃ a b wa wb f, e = .weighted a b wa wb f := by
  cases e <;> simp [isWeighted]

theorem windowAxisUsable_iff {u : Scu} {x : Fin 10} :
    windowAxisUsable u x = true ↔ x.val < 6 ∨ ∃ (c : Fin 4) (a b : AxisId) (wa wb : Int) (f : Bool),
      x.val = 6 + c.val ∧ u.composites[c] = .weighted a b wa wb f := by
  have position : finOf 4 (x.val - 6) = some ⟨x.val - 6, by omega⟩ := finOf_eq_some.2 rfl
  simp only [windowAxisUsable, position, Bool.or_eq_true, decide_eq_true_iff, isWeighted_iff]
  obtain raw | isComposite := lt_or_ge x.val 6
  · simp [raw]
  · refine or_congr_right ⟨fun ⟨a, b, wa, wb, f, weighted⟩ => ⟨_, a, b, wa, wb, f, by simp; omega, weighted⟩, ?_⟩
    rintro ⟨c, a, b, wa, wb, f, named, weighted⟩
    have same : (⟨x.val - 6, by omega⟩ : Fin 4) = c := Fin.ext (by simp; omega)
    exact ⟨a, b, wa, wb, f, same ▸ weighted⟩

/-! ### Test 3: the window limits -/

/-- R151: the limit below window i: `lower` for the first window, and the upper limit of the window before it for every
other. -/
def limitBefore (lower : Int) (ws : List WindowEntry) (i : Nat) : Int :=
  if i = 0 then lower else (ws.map (·.limit)).getD (i - 1) 0

theorem limitBefore_zero (lower : Int) (ws : List WindowEntry) : limitBefore lower ws 0 = lower := rfl

theorem limitBefore_cons_succ (lower : Int) (w : WindowEntry) (ws : List WindowEntry) (i : Nat) :
    limitBefore lower (w :: ws) (i + 1) = limitBefore w.limit ws i := by
  cases i <;> rfl

theorem limitsRise_take_iff (ws : List WindowEntry) (lower : Int) (n : Nat) :
    limitsRise lower (ws.take n) = true
      ↔ ∀ i < min n ws.length, limitBefore lower ws i < limitBefore lower ws (i + 1) := by
  induction ws generalizing lower n with
  | nil => simp [limitsRise]
  | cons w ws ih =>
    cases n with
    | zero => simp [limitsRise]
    | succ n =>
      rw [List.take_succ_cons, limitsRise, Bool.and_eq_true, decide_eq_true_iff, ih, List.length_cons,
        Nat.add_min_add_right, Nat.forall_lt_succ_left]
      simp only [limitBefore_cons_succ, limitBefore_zero]

theorem windowsOrdered_iff {c : Cap} :
    windowsOrdered c = true ↔ ∀ i < min c.header.valid 32,
      limitBefore c.header.base c.windows.toList i < limitBefore c.header.base c.windows.toList (i + 1) := by
  rw [windowsOrdered, validWindows, limitsRise_take_iff, Vector.length_toList]

/-! ### The answer to ARM -/

section

variable {s : State} {r : Request}

/-- R134: the three tests of ARM, each made when those before it pass. -/
theorem armStatus_eq :
    armStatus s =
      if ∀ i : SourceId, maskUsable s.scu (s.cap.map[i]).mask = true then
        if windowAxisUsable s.scu s.cap.header.axis = true then
          if windowsOrdered s.cap = true then .done else .refusedOrder
        else .refusedRange
      else .refusedRange := by
  have masks : (s.cap.map.toList.any fun e => !maskUsable s.scu e.mask) = true
      ↔ ¬∀ i : SourceId, maskUsable s.scu (s.cap.map[i]).mask = true := by
    simp [Vector.any_eq_true, Fin.exists_iff]
  unfold armStatus
  rw [if_congr masks rfl rfl, ite_not]
  split
  next => cases windowAxisUsable s.scu s.cap.header.axis <;> cases windowsOrdered s.cap <;> rfl
  next => rfl

theorem exec_arm_of_executing (h : Executing s .arm r) : exec .arm s = .next ((armCapture r s).place r) := by
  obtain ⟨executing, isArm, -⟩ := h
  change execArm s = _
  rw [execArm, serve_mine executing (by simp [Request.isOp, isArm])]

theorem exec_arm_of_armed (h : Executing s .arm r) (isArmed : s.cap.state = .armed) :
    exec .arm s = .next { s with mga := answered s.mga r .refusedState [], bus := refusalReported s.bus } := by
  rw [exec_arm_of_executing h, armCapture, if_pos isArmed]
  obtain ⟨-, -, addressed⟩ := h
  exact congrArg _ (place_plain_of_refuses addressed rfl)

/-- R134: the first failing test decides the answer. -/
theorem exec_arm_of_refusing_status (h : Executing s .arm r) (notArmed : s.cap.state ≠ .armed) {status : Status}
    (decided : armStatus s = status) (refuses : statusRefuses status = true) :
    exec .arm s = .next { s with mga := answered s.mga r status [], bus := refusalReported s.bus } := by
  have notDone : armStatus s ≠ .done := by
    intro done
    rw [← decided, done] at refuses
    cases refuses
  rw [exec_arm_of_executing h, armCapture, if_neg notArmed, if_neg notDone, decided]
  obtain ⟨-, -, addressed⟩ := h
  exact congrArg _ (place_plain_of_refuses addressed refuses)

theorem exec_arm_of_done (h : Executing s .arm r) (notArmed : s.cap.state ≠ .armed) (done : armStatus s = .done) :
    exec .arm s = .next { s with cap := armed s.cap, mga := answered s.mga r .done [] } := by
  rw [exec_arm_of_executing h, armCapture, if_neg notArmed, if_pos done]
  obtain ⟨-, -, addressed⟩ := h
  exact congrArg _ (place_plain_of_not_refuses addressed rfl)

end

/-- Settles O43: each test of `armStatus` passes exactly when the manual's condition holds, and the first that fails
gives the status that ARM is answered with. -/
theorem armMakesItsTestsInOrder : Obligations.ArmMakesItsTestsInOrder := by
  unfold Obligations.ArmMakesItsTestsInOrder
  intro s r h refused maskOk axisOk limit orderOk
  have masks : (∀ i : SourceId, maskUsable s.scu (s.cap.map[i]).mask = true) ↔ maskOk :=
    forall_congr' fun _ => maskUsable_iff
  have axis : windowAxisUsable s.scu s.cap.header.axis = true ↔ axisOk := windowAxisUsable_iff
  have order : windowsOrdered s.cap = true ↔ orderOk := windowsOrdered_iff
  refine ⟨exec_arm_of_armed h, fun notArmed badMask => ?_, fun notArmed goodMasks badAxis => ?_,
    fun notArmed goodMasks goodAxis badOrder => ?_, fun notArmed goodMasks goodAxis goodOrder => ?_⟩
  · refine exec_arm_of_refusing_status h notArmed ?_ rfl
    rw [armStatus_eq, if_neg (mt masks.1 badMask)]
  · refine exec_arm_of_refusing_status h notArmed ?_ rfl
    rw [armStatus_eq, if_pos (masks.2 goodMasks), if_neg (mt axis.1 badAxis)]
  · refine exec_arm_of_refusing_status h notArmed ?_ rfl
    rw [armStatus_eq, if_pos (masks.2 goodMasks), if_pos (axis.2 goodAxis), if_neg (mt order.1 badOrder)]
  · refine exec_arm_of_done h notArmed ?_
    rw [armStatus_eq, if_pos (masks.2 goodMasks), if_pos (axis.2 goodAxis), if_pos (order.2 goodOrder)]

end Sys2Proof.Machine
end

section
/-! SUPPORT. Bytes, fields and frames: a field written is read back, a list of bytes is its fields in their order, and a frame
sealed over a header that fits is good (R4 to R7). -/

namespace Sys2Proof.Machine

/-! ### Bytes and numbers -/

@[simp] theorem length_leBytes (n x : Nat) : (leBytes n x).length = n := by
  induction n generalizing x with
  | zero => rfl
  | succ n ih => simp [leBytes, ih]

@[simp] theorem length_leInt (n : Nat) (z : Int) : (leInt n z).length = n :=
  length_leBytes ..

theorem leNat_leBytes (n x : Nat) : leNat (leBytes n x) = x % 256 ^ n := by
  induction n generalizing x with
  | zero => simp [leBytes, leNat, Nat.mod_one]
  | succ n ih =>
    have low : (BitVec.ofNat 8 x).toNat = x % 256 := BitVec.toNat_ofNat ..
    rw [leBytes, leNat, ih, low, Nat.pow_succ', Nat.mod_mul]

theorem leNat_lt (bs : List Byte) : leNat bs < 256 ^ bs.length := by
  induction bs with
  | nil => simp [leNat]
  | cons b bs ih =>
    have low : b.toNat < 256 := b.isLt
    rw [leNat, List.length_cons, Nat.pow_succ']
    omega

theorem leBytes_leNat (bs : List Byte) : leBytes bs.length (leNat bs) = bs := by
  induction bs with
  | nil => rfl
  | cons b bs ih =>
    have low : b.toNat < 256 := b.isLt
    have head : BitVec.ofNat 8 (b.toNat + 256 * leNat bs) = b := by
      apply BitVec.eq_of_toNat_eq
      rw [BitVec.toNat_ofNat]
      omega
    have tail : (b.toNat + 256 * leNat bs) / 256 = leNat bs := by omega
    rw [leNat, List.length_cons, leBytes, head, tail, ih]

/-! ### Fields of a concatenation -/

theorem field_append_left {a b : List Byte} {off size : Nat} (h : off + size ≤ a.length) :
    field (a ++ b) off size = field a off size := by
  rw [field, field, List.drop_append_of_le_length (by omega), List.take_append_of_le_length (by simp; omega)]

theorem field_append_right {a b : List Byte} {off size : Nat} (h : a.length ≤ off) :
    field (a ++ b) off size = field b (off - a.length) size := by
  rw [field, field, List.drop_append, List.drop_eq_nil_of_le h, List.nil_append]

theorem field_leBytes (n x : Nat) : field (leBytes n x) 0 n = x % 256 ^ n := by
  rw [field, List.drop_zero, List.take_of_length_le (by simp), leNat_leBytes]

theorem field_leBytes_append (n x : Nat) (b : List Byte) : field (leBytes n x ++ b) 0 n = x % 256 ^ n := by
  rw [field_append_left (by simp), field_leBytes]

@[simp] theorem field_singleton (x : Byte) : field [x] 0 1 = x.toNat := by
  simp [field, leNat]

theorem field_cons_zero (x : Byte) (b : List Byte) : field (x :: b) 0 1 = x.toNat := by
  simp [field, leNat]

theorem field_cons_succ (x : Byte) (b : List Byte) (off size : Nat) :
    field (x :: b) (off + 1) size = field b off size := rfl

theorem field_lt (b : List Byte) (off size : Nat) : field b off size < 256 ^ size := by
  refine (leNat_lt _).trans_le (Nat.pow_le_pow_right (by decide) ?_)
  simp

/-! ### Bytes from their fields -/

/-- The bytes of a field, written again from its value. -/
theorem leBytes_field {b : List Byte} {off size : Nat} (h : off + size ≤ b.length) :
    leBytes size (field b off size) = (b.drop off).take size := by
  have length : ((b.drop off).take size).length = size := by simp; omega
  have read := leBytes_leNat ((b.drop off).take size)
  rwa [length] at read

/-- A list of bytes is a field and what stands behind it. -/
theorem leBytes_field_append {b : List Byte} {off size : Nat} (h : off + size ≤ b.length) :
    leBytes size (field b off size) ++ b.drop (off + size) = b.drop off := by
  rw [leBytes_field h, ← List.drop_drop, List.take_append_drop]

/-! ### Signed fields -/

/-- R6: two's complement of `8 * n` bits, written and read. -/
theorem asSigned_leInt {n : Nat} {z : Int} (positive : 0 < n) (low : -(2 ^ (8 * n - 1) : Int) ≤ z)
    (high : z < (2 ^ (8 * n - 1) : Int)) : asSigned (8 * n) ((z % 256 ^ n).toNat % 256 ^ n) = z := by
  have double : (2 : Int) ^ (8 * n) = 2 * 2 ^ (8 * n - 1) := by
    rw [← pow_succ']
    congr 1
    omega
  have bytes : (256 : Int) ^ n = 2 ^ (8 * n) := by rw [pow_mul]; norm_num
  have cast : ((256 ^ n : Nat) : Int) = (256 : Int) ^ n := by push_cast; rfl
  have halfCast : ((2 ^ (8 * n - 1) : Nat) : Int) = (2 : Int) ^ (8 * n - 1) := by push_cast; rfl
  have modLow : 0 ≤ z % (256 : Int) ^ n := Int.emod_nonneg _ (by positivity)
  have modHigh : z % (256 : Int) ^ n < 256 ^ n := Int.emod_lt_of_pos _ (by positivity)
  have whole : (z % (256 : Int) ^ n).toNat % 256 ^ n = (z % (256 : Int) ^ n).toNat := by
    apply Nat.mod_eq_of_lt
    omega
  rw [whole, asSigned]
  obtain nonneg | neg := le_or_gt 0 z
  · have small : z % (256 : Int) ^ n = z := Int.emod_eq_of_lt nonneg (by omega)
    rw [small, if_pos (by omega)]
    omega
  · have wrapped : z % (256 : Int) ^ n = z + 256 ^ n := by
      rw [← Int.add_emod_right]
      exact Int.emod_eq_of_lt (by omega) (by omega)
    rw [wrapped, if_neg (by omega), ← bytes]
    omega

theorem signedField_leInt {n : Nat} {z : Int} (positive : 0 < n) (low : -(2 ^ (8 * n - 1) : Int) ≤ z)
    (high : z < (2 ^ (8 * n - 1) : Int)) : signedField (leInt n z) 0 n = z := by
  rw [signedField, leInt, field_leBytes, asSigned_leInt positive low high]

theorem signedField_append_left {a b : List Byte} {off size : Nat} (h : off + size ≤ a.length) :
    signedField (a ++ b) off size = signedField a off size := by
  rw [signedField, field_append_left h, signedField]

theorem signedField_append_right {a b : List Byte} {off size : Nat} (h : a.length ≤ off) :
    signedField (a ++ b) off size = signedField b (off - a.length) size := by
  rw [signedField, field_append_right h, signedField]

/-- A signed field lies in the range of its bits. -/
theorem signedField_mem (b : List Byte) (off : Nat) {n : Nat} (positive : 0 < n) :
    -(2 ^ (8 * n - 1) : Int) ≤ signedField b off n ∧ signedField b off n < (2 ^ (8 * n - 1) : Int) := by
  have double : (2 : Int) ^ (8 * n) = 2 * 2 ^ (8 * n - 1) := by
    rw [← pow_succ']
    congr 1
    omega
  have bytes : (256 : Nat) ^ n = 2 ^ (8 * n) := by rw [pow_mul]; norm_num
  have bound := field_lt b off n
  have boundInt : (field b off n : Int) < 2 ^ (8 * n) := by
    rw [bytes] at bound
    exact_mod_cast bound
  unfold signedField asSigned
  split
  next small =>
    have smallInt : (field b off n : Int) < 2 ^ (8 * n - 1) := by exact_mod_cast small
    omega
  next large =>
    have largeInt : (2 : Int) ^ (8 * n - 1) ≤ field b off n := by exact_mod_cast Nat.not_lt.1 large
    omega

/-- The bytes of a signed field, written again from its value. -/
theorem leInt_signedField {b : List Byte} {off n : Nat} : leInt n (signedField b off n) = leBytes n (field b off n) := by
  have bytes : (256 : Int) ^ n = 2 ^ (8 * n) := by rw [pow_mul]; norm_num
  have bound := field_lt b off n
  have boundInt : (field b off n : Int) < 256 ^ n := by exact_mod_cast bound
  have same : signedField b off n % 256 ^ n = field b off n := by
    unfold signedField asSigned
    split
    · exact Int.emod_eq_of_lt (by positivity) boundInt
    · rw [← bytes, Int.sub_emod_right]
      exact Int.emod_eq_of_lt (by positivity) boundInt
  rw [leInt, same, Int.toNat_natCast]

/-! ### Time fields -/

theorem timeField_append_left {a b : List Byte} {off : Nat} (h : off + 6 ≤ a.length) :
    timeField (a ++ b) off = timeField a off := by
  rw [timeField, field_append_left h, timeField]

theorem timeField_append_right {a b : List Byte} {off : Nat} (h : a.length ≤ off) :
    timeField (a ++ b) off = timeField b (off - a.length) := by
  rw [timeField, field_append_right h, timeField]

@[simp] theorem timeField_leBytes (t : Time) : timeField (leBytes 6 t.toNat) 0 = t := by
  have fits : t.toNat % 256 ^ 6 = t.toNat := Nat.mod_eq_of_lt t.isLt
  rw [timeField, field_leBytes, fits, BitVec.ofNat_toNat, BitVec.setWidth_eq]

theorem toNat_timeField (b : List Byte) (off : Nat) : (timeField b off).toNat = field b off 6 := by
  rw [timeField, BitVec.toNat_ofNat]
  exact Nat.mod_eq_of_lt (field_lt b off 6)

/-! ### Frames -/

@[simp] theorem frameBody_sealFrame (body : List Byte) : frameBody (sealFrame body) = body := by
  simp [frameBody, sealFrame]

theorem length_sealFrame (body : List Byte) : (sealFrame body).length = body.length + 4 := by
  simp [sealFrame]

/-- R5: a fresh check matches. -/
theorem checkMatches_sealFrame (body : List Byte) : checkMatches (sealFrame body) = true := by
  have fits : (crc32 body).toNat % 256 ^ 4 = (crc32 body).toNat := Nat.mod_eq_of_lt (crc32 body).isLt
  have trailer : field (sealFrame body) ((sealFrame body).length - 4) 4 = (crc32 body).toNat := by
    rw [length_sealFrame, Nat.add_sub_cancel, sealFrame, field_append_right (Nat.le_refl _), Nat.sub_self,
      field_leBytes, fits]
  rw [checkMatches, trailer, frameBody_sealFrame, beq_self_eq_true]

theorem field_sealFrame {body : List Byte} {off size : Nat} (h : off + size ≤ body.length) :
    field (sealFrame body) off size = field body off size :=
  field_append_left h

/-- R4, R5: a header and payload whose length field is right, sealed, are a good frame. -/
theorem goodFrame_sealFrame {body : List Byte} (header : 14 ≤ body.length) (payload : body.length ≤ 526)
    (length : field body 4 2 = body.length - 14) : goodFrame (sealFrame body) = true := by
  have lengthField : field (sealFrame body) 4 2 = body.length - 14 := (field_sealFrame (by omega)).trans length
  simp only [goodFrame, frameWellFormed, lengthField, length_sealFrame, checkMatches_sealFrame, Bool.and_eq_true,
    decide_eq_true_iff, and_true]
  omega

theorem goodFrame_iff (b : List Byte) : goodFrame b = true ↔ (18 ≤ b.length ∧ b.length ≤ 530 ∧ field b 4 2 ≤ 512
    ∧ b.length = 18 + field b 4 2) ∧ checkMatches b = true := by
  simp [goodFrame, frameWellFormed, and_assoc]

theorem field_set_of_lt {b : List Byte} {off size at_ : Nat} {x : Byte} (h : off + size ≤ at_) :
    field (b.set at_ x) off size = field b off size := by
  rw [field, field, List.drop_set, if_neg (by omega), List.take_set_of_le (by omega)]

theorem field_set_of_gt {b : List Byte} {off size at_ : Nat} {x : Byte} (h : at_ < off) :
    field (b.set at_ x) off size = field b off size := by
  rw [field, field, List.drop_set, if_pos h]

/-- R5: a good frame with a byte outside its length field replaced, and a fresh check, is good. -/
theorem goodFrame_alterByte {b : List Byte} {at_ value : Nat} (good : goodFrame b = true) (outside : at_ < 4 ∨ 6 ≤ at_) :
    goodFrame (alterByte b at_ value) = true := by
  obtain ⟨⟨low, high, -, length⟩, -⟩ := (goodFrame_iff b).1 good
  have bodyLength : (frameBody b).length = b.length - 4 := by simp [frameBody]
  have kept : field ((frameBody b).set at_ (BitVec.ofNat 8 value)) 4 2 = field (frameBody b) 4 2 := by
    obtain below | above := outside
    · exact field_set_of_gt below
    · exact field_set_of_lt above
  have bodyField : field (frameBody b) 4 2 = field b 4 2 := by
    have whole : b = frameBody b ++ b.drop (b.length - 4) := (List.take_append_drop ..).symm
    rw [whole, field_append_left (by omega), ← whole]
  refine goodFrame_sealFrame ?_ ?_ ?_ <;> rw [List.length_set]
  · omega
  · omega
  · omega

/-- The header and payload of a frame, before its check (R7). -/
def frameFields (kind dest source slot tag : Nat) (time : Time) (payload : List Byte) : List Byte :=
  leBytes 1 kind ++ leBytes 1 dest ++ leBytes 1 source ++ leBytes 1 slot ++ leBytes 2 payload.length
    ++ leBytes 2 tag ++ leBytes 6 time.toNat ++ payload

section
variable {kind dest source slot tag : Nat} {time : Time} {payload : List Byte}

theorem buildFrame_eq : buildFrame kind dest source slot tag time payload
    = sealFrame (frameFields kind dest source slot tag time payload) := rfl

theorem length_frameFields : (frameFields kind dest source slot tag time payload).length = 14 + payload.length := by
  simp [frameFields]
  omega

/-- R7: the fields of a header, where they stand and how they read. -/
theorem frameFields_read : let d := frameFields kind dest source slot tag time payload
    field d 0 1 = kind % 256 ∧ field d 1 1 = dest % 256 ∧ field d 2 1 = source % 256 ∧ field d 3 1 = slot % 256
      ∧ field d 4 2 = payload.length % 65536 ∧ field d 6 2 = tag % 65536 ∧ timeField d 8 = time
      ∧ d.drop 14 = payload := by
  have fits : time.toNat % 281474976710656 = time.toNat := Nat.mod_eq_of_lt time.isLt
  refine ⟨?_, ?_, ?_, ?_, ?_, ?_, ?_, ?_⟩
  case refine_8 => exact List.drop_left' (by simp)
  all_goals simp [frameFields, List.append_assoc, field_append_right, field_leBytes_append, timeField, fits]

theorem goodFrame_buildFrame (fits : payload.length ≤ 512) :
    goodFrame (buildFrame kind dest source slot tag time payload) = true := by
  obtain ⟨-, -, -, -, length, -, -, -⟩ := frameFields_read (kind := kind) (dest := dest) (source := source)
    (slot := slot) (tag := tag) (time := time) (payload := payload)
  rw [buildFrame_eq]
  refine goodFrame_sealFrame ?_ ?_ ?_ <;> rw [length_frameFields] <;> omega

/-- R7: the header fields and the payload of a built frame read back. -/
theorem buildFrame_read (hkind : kind < 256) (hdest : dest < 256) (hsource : source < 256) (hslot : slot < 256)
    (htag : tag < 65536) : let b := buildFrame kind dest source slot tag time payload
    frameKind b = kind ∧ frameDest b = dest ∧ frameSource b = source ∧ frameSlot b = slot ∧ frameTag b = tag
      ∧ frameTime b = time ∧ framePayload b = payload := by
  obtain ⟨readKind, readDest, readSource, readSlot, -, readTag, readTime, readPayload⟩ :=
    frameFields_read (kind := kind) (dest := dest) (source := source) (slot := slot) (tag := tag) (time := time)
      (payload := payload)
  have header {off size : Nat} (h : off + size ≤ 14) : field (buildFrame kind dest source slot tag time payload) off size
      = field (frameFields kind dest source slot tag time payload) off size := by
    rw [buildFrame_eq]
    exact field_sealFrame (by rw [length_frameFields]; omega)
  refine ⟨?_, ?_, ?_, ?_, ?_, ?_, ?_⟩
  · rw [frameKind, header (by decide), readKind, Nat.mod_eq_of_lt hkind]
  · rw [frameDest, header (by decide), readDest, Nat.mod_eq_of_lt hdest]
  · rw [frameSource, header (by decide), readSource, Nat.mod_eq_of_lt hsource]
  · rw [frameSlot, header (by decide), readSlot, Nat.mod_eq_of_lt hslot]
  · rw [frameTag, header (by decide), readTag, Nat.mod_eq_of_lt htag]
  · rw [frameTime, timeField, header (by decide), ← timeField, readTime]
  · rw [framePayload, buildFrame_eq, frameBody_sealFrame, readPayload]

end

/-- Settles O13: a built frame is sealed over a header whose length field is that of its payload. -/
theorem builtFramesAreGoodAndReadBack : Obligations.BuiltFramesAreGoodAndReadBack := by
  unfold Obligations.BuiltFramesAreGoodAndReadBack
  intro kind dest source slot tag time payload hkind hdest hsource hslot htag fits
  exact ⟨goodFrame_buildFrame fits, buildFrame_read hkind hdest hsource hslot htag⟩

end Sys2Proof.Machine
end

section
/-! SUPPORT. The pending list: the composites of an entry resolved in one step (R100, R143), an event's work on the listed
entries as a fold (R144), and what CAP's work on its entries leaves unchanged. -/

namespace Sys2Proof.Machine

/-! ### Raises -/

@[simp] theorem State.raised_nil (s : State) : s.raised [] = s := by
  simp [State.raised]

theorem State.raised_append (s : State) (l k : List RaiseMsg) : s.raised (l ++ k) = (s.raised l).raised k := by
  simp [State.raised]

theorem raise_eq_raised (s : State) (b : Block) (k : ErrorKind) (n : Nat) (d : Int) :
    s.raise b k n d = s.raised [⟨b, k, n, BitVec.ofInt 32 d, 0⟩] := rfl

/-- R90, R100: what SCU raises for a value that had to be limited. -/
def saturationRaises (subject : Nat) (p : Int) : List RaiseMsg :=
  if within48 p then [] else [⟨.scu, .positionSaturated, subject, if 0 < p then 3#32 else 4#32, 0⟩]

theorem raiseSaturated_eq (s : State) (subject : Nat) (p : Int) :
    raiseSaturated s subject p = s.raised (saturationRaises subject p) := by
  unfold raiseSaturated saturationRaises
  split
  · rw [State.raised_nil]
  · rw [raise_eq_raised, saturationDetail]
    split <;> rfl

/-! ### The composites of an entry -/

/-- R100: what SCU raises as composite c of the entry resolves. -/
def Entry.saturationsAt (e : Entry) (c : Fin 4) : List RaiseMsg :=
  match e.compositeFound c with
  | some (.value _ p _) => saturationRaises (6 + c.val) p
  | _ => []

/-- R143, R100: composite c of the entry resolved, if both its inputs have resolved. -/
def Entry.settledAt (e : Entry) (c : Fin 4) : Entry :=
  match e.compositeFound c with
  | some f => { e with composite := e.composite.set c.val (some (limitField f)) c.isLt }
  | none => e

theorem Entry.saturations_eq (e : Entry) : e.saturations = (List.finRange 4).flatMap e.saturationsAt := rfl

theorem settleComposite_eq (s : State) (e : Entry) (c : Fin 4) :
    settleComposite (s, e) c = (s.raised (e.saturationsAt c), e.settledAt c) := by
  simp only [settleComposite, Entry.saturationsAt, Entry.settledAt, Entry.compositeFound]
  split
  next waits =>
    rw [waits]
    cases e.copies[c] with
    | none => simp
    | some k =>
      cases hk : compositeInputs k with
      | none => simp [hk]
      | some ab =>
        cases ha : resolvedField e.raw[ab.1] <;> cases hb : resolvedField e.raw[ab.2] <;> simp only [hk, ha, hb]
        case some.some fa fb =>
          cases compositeField k fa fb <;> simp [raiseComposite, raiseSaturated_eq]
        all_goals simp
  next settled =>
    cases hc : e.composite[c] with
    | none => simp
    | some f => cases f <;> simp_all

theorem Entry.settledAt_fields (e : Entry) (c : Fin 4) :
    e.settledAt c = { e with composite := (e.settledAt c).composite } := by
  unfold Entry.settledAt
  split <;> rfl

/-- A composite that resolves leaves the other composites as they are. -/
theorem Entry.settledAt_other (e : Entry) {c d : Fin 4} (h : c ≠ d) :
    (e.settledAt c).composite[d] = e.composite[d] := by
  have apart : c.val ≠ d.val := fun same => h (Fin.ext same)
  unfold Entry.settledAt
  split
  · simp [apart]
  · rfl

theorem Entry.settled_composite (e : Entry) (c : Fin 4) :
    e.settled.composite[c] = (e.compositeFound c).elim e.composite[c] fun f => some (limitField f) := by
  cases found : e.compositeFound c <;> simp [Entry.settled, found]

theorem Entry.settledAt_same (e : Entry) (c : Fin 4) : (e.settledAt c).composite[c] = e.settled.composite[c] := by
  rw [e.settled_composite]
  unfold Entry.settledAt
  split <;> simp_all

theorem Entry.compositeFound_settledAt (e : Entry) {c d : Fin 4} (h : c ≠ d) :
    (e.settledAt c).compositeFound d = e.compositeFound d := by
  have composite := e.settledAt_other h
  rw [e.settledAt_fields c] at composite ⊢
  simp only [Entry.compositeFound] at composite ⊢
  rw [composite]

/-- Composites resolve independently of one another, so the order of resolving shows in the raises only. -/
theorem foldl_settleComposite (l : List (Fin 4)) (nodup : l.Nodup) (s : State) (e : Entry) :
    l.foldl settleComposite (s, e) = (s.raised (l.flatMap e.saturationsAt), l.foldl Entry.settledAt e)
      ∧ ∀ d ∉ l, (l.foldl Entry.settledAt e).composite[d] = e.composite[d] := by
  induction l generalizing s e with
  | nil => simp
  | cons c l ih =>
    obtain ⟨fresh, nodup⟩ := List.nodup_cons.1 nodup
    obtain ⟨fold, others⟩ := ih nodup (s.raised (e.saturationsAt c)) (e.settledAt c)
    have later : l.flatMap (e.settledAt c).saturationsAt = l.flatMap e.saturationsAt := by
      refine List.flatMap_congr fun d hd => ?_
      have apart : c ≠ d := fun same => fresh (same ▸ hd)
      simp only [Entry.saturationsAt, e.compositeFound_settledAt apart]
    refine ⟨?_, fun d hd => ?_⟩
    · rw [List.foldl_cons, settleComposite_eq, fold, later, List.flatMap_cons, List.foldl_cons, State.raised_append]
    · obtain ⟨apart, away⟩ := not_or.1 (mt List.mem_cons.2 hd)
      rw [List.foldl_cons, others d away, e.settledAt_other (Ne.symm apart)]

theorem foldl_settledAt_fields (l : List (Fin 4)) (e : Entry) :
    l.foldl Entry.settledAt e = { e with composite := (l.foldl Entry.settledAt e).composite } := by
  induction l generalizing e with
  | nil => rfl
  | cons c l ih => rw [List.foldl_cons, ih, e.settledAt_fields c]

theorem foldl_settledAt_mem (l : List (Fin 4)) (nodup : l.Nodup) (e : Entry) (d : Fin 4) (hd : d ∈ l) :
    (l.foldl Entry.settledAt e).composite[d] = e.settled.composite[d] := by
  induction l generalizing e with
  | nil => cases hd
  | cons c l ih =>
    obtain ⟨fresh, nodup⟩ := List.nodup_cons.1 nodup
    rw [List.foldl_cons]
    by_cases same : c = d
    · subst same
      rw [(foldl_settleComposite l nodup State.reset _).2 _ fresh, e.settledAt_same]
    · rw [ih nodup _ ((List.mem_cons.1 hd).resolve_left (Ne.symm same))]
      rw [Entry.settled_composite, Entry.settled_composite, e.compositeFound_settledAt same, e.settledAt_other same]

/-- R100, R143: every waiting composite whose inputs have resolved is resolved and limited, with its raises. -/
theorem settleComposites_eq (s : State) (e : Entry) : settleComposites (s, e) = (s.raised e.saturations, e.settled) := by
  have nodup : ([0, 1, 2, 3] : List (Fin 4)).Nodup := by decide
  rw [settleComposites, (foldl_settleComposite _ nodup s e).1, Entry.saturations_eq]
  refine Prod.ext rfl ?_
  rw [foldl_settledAt_fields]
  have composites : (List.foldl Entry.settledAt e [0, 1, 2, 3]).composite = e.settled.composite := by
    refine Vector.ext fun i hi => ?_
    have all : ∀ d : Fin 4, d ∈ ([0, 1, 2, 3] : List (Fin 4)) := by decide
    exact foldl_settledAt_mem _ nodup e ⟨i, hi⟩ (all _)
  rw [composites]
  rfl

/-! ### An event's work on the listed entries -/

/-- R144: the recursion over the list carries the kept entries as the fold gathers them. -/
theorem sweep_eq_foldl (work : State → Entry → State × Entry) (es : List Entry) (s : State) (kept : List Entry) :
    es.foldl (fun (x : State × List Entry) e =>
      let w := work x.1 e
      let u := w.1.raised w.2.saturations
      if w.2.settled.complete then (completeEntry u w.2.settled, x.2) else (u, x.2 ++ [w.2.settled])) (s, kept)
    = ((sweep work es s).1, kept ++ (sweep work es s).2) := by
  induction es generalizing s kept with
  | nil => simp [sweep]
  | cons e es ih =>
    have settles : settleComposites (work s e)
        = ((work s e).1.raised (work s e).2.saturations, (work s e).2.settled) := settleComposites_eq _ _
    simp only [List.foldl_cons, sweep, settles]
    split
    · rw [ih]
    · rw [ih]; simp

theorem sweepPending_eq_swept (s : State) (work : State → Entry → State × Entry) :
    s.sweepPending work = swept work s := by
  simp only [swept, sweep_eq_foldl, List.nil_append]
  rfl

end Sys2Proof.Machine
end

section
/-! SUPPORT. What the work of CAP may change: relations between the state before and after, closed under sequence, one per
kind of work, and each operation of CAP placed under one of them. -/

namespace Sys2Proof.Machine

/-! ### Entries whose composites have their inputs -/

/-- Each waiting composite of the entry has a copy both of whose inputs the entry awaits (R137). -/
def Entry.linked (e : Entry) : Prop :=
  ∀ c : Fin 4, e.composite[c] = some .waiting → ∃ k ∈ e.copies[c], ∃ ab ∈ compositeInputs k,
    e.raw[ab.1] ≠ none ∧ e.raw[ab.2] ≠ none

theorem Entry.unresolved.linked {e : Entry} (h : e.unresolved) : e.linked := by
  intro c waits
  obtain ⟨k, copied, ab, inputs, first, second, -⟩ := h.2 c waits
  exact ⟨k, copied, ab, inputs, first, second⟩

theorem raw_resolve (e : Entry) (a b : AxisId) (f : Field) :
    (e.resolve a f).raw[b] = if a = b then some f else e.raw[b] := by
  simp [Entry.resolve, Vector.getElem_set, Fin.ext_iff]

theorem Entry.linked.resolve {e : Entry} (h : e.linked) (a : AxisId) (f : Field) : (e.resolve a f).linked := by
  intro c waits
  obtain ⟨k, copied, ab, inputs, first, second⟩ := h c waits
  refine ⟨k, copied, ab, inputs, ?_, ?_⟩ <;> rw [raw_resolve] <;> split <;> simp_all

theorem resolvedField_eq_none {f : Option Field} : resolvedField f = none ↔ f = none ∨ f = some .waiting := by
  unfold resolvedField
  split <;> simp_all

theorem compositeField_ne_waiting (k : CompositeEntry) (fa fb : Field) : compositeField k fa fb ≠ .waiting := by
  unfold compositeField
  split <;> exact nofun

theorem limitField_ne_waiting {f : Field} (h : f ≠ .waiting) : limitField f ≠ .waiting := by
  unfold limitField
  split
  · exact nofun
  · exact h

theorem compositeFound_ne_waiting {e : Entry} {c : Fin 4} {f : Field} (h : e.compositeFound c = some f) :
    f ≠ .waiting := by
  unfold Entry.compositeFound at h
  repeat' split at h
  all_goals cases h
  exact compositeField_ne_waiting _ _ _

/-- What waits in the settled entry waited before, and has not been found. -/
theorem composite_settled_waiting {e : Entry} {c : Fin 4} (h : e.settled.composite[c] = some .waiting) :
    e.composite[c] = some .waiting ∧ e.compositeFound c = none := by
  rw [Entry.settled_composite] at h
  cases found : e.compositeFound c with
  | none => exact ⟨by simpa [found] using h, rfl⟩
  | some f =>
    simp only [found, Option.elim_some, Option.some.injEq] at h
    exact absurd h (limitField_ne_waiting (compositeFound_ne_waiting found))

theorem Entry.linked.settled {e : Entry} (h : e.linked) : e.settled.linked :=
  fun c waits => h c (composite_settled_waiting waits).1

theorem Entry.complete_iff (e : Entry) : e.complete = true ↔
    (∀ a : AxisId, e.raw[a] ≠ some .waiting) ∧ ∀ c : Fin 4, e.composite[c] ≠ some .waiting := by
  have all {n : Nat} (v : Vector (Option Field) n) : v.toList.all (fun f => f != some .waiting) = true
      ↔ ∀ i : Fin n, v[i] ≠ some .waiting := by
    simp [Fin.forall_iff]
  rw [Entry.complete, Bool.and_eq_true, all, all]

/-- R143, R144: a settled entry that is not complete waits for a raw field. -/
theorem Entry.linked.unresolved_settled {e : Entry} (h : e.linked) (incomplete : e.settled.complete = false) :
    e.settled.unresolved := by
  have composites (c : Fin 4) (waits : e.settled.composite[c] = some .waiting) : ∃ k ∈ e.settled.copies[c],
      ∃ ab ∈ compositeInputs k, e.settled.raw[ab.1] ≠ none ∧ e.settled.raw[ab.2] ≠ none
        ∧ (e.settled.raw[ab.1] = some .waiting ∨ e.settled.raw[ab.2] = some .waiting) := by
    obtain ⟨waited, unfound⟩ := composite_settled_waiting waits
    obtain ⟨k, copied, ab, inputs, first, second⟩ := h c waited
    refine ⟨k, copied, ab, inputs, first, second, ?_⟩
    by_contra! resolved
    cases ha : resolvedField e.raw[ab.1] with
    | none => exact (resolvedField_eq_none.1 ha).elim first resolved.1
    | some fa =>
      cases hb : resolvedField e.raw[ab.2] with
      | none => exact (resolvedField_eq_none.1 hb).elim second resolved.2
      | some fb =>
        rw [Option.mem_def] at copied inputs
        simp only [Entry.compositeFound, waited, copied, inputs, ha, hb] at unfound
        cases unfound
  refine ⟨?_, composites⟩
  by_contra! none
  have complete : e.settled.complete = true := by
    refine (Entry.complete_iff _).2 ⟨none, fun c waits => ?_⟩
    obtain ⟨k, -, ab, -, -, -, first | second⟩ := composites c waits
    · exact none _ first
    · exact none _ second
  simp [complete] at incomplete

/-! ### One raw field worked on -/

/-- The entry is what it was, or the raw field of axis a has resolved. -/
def ResolvedAt (a : AxisId) (e d : Entry) : Prop :=
  d = e ∨ ∃ f, d = e.resolve a f ∧ f ≠ .waiting

theorem ResolvedAt.linked {a : AxisId} {e d : Entry} (h : ResolvedAt a e d) (links : e.linked) : d.linked := by
  obtain rfl | ⟨f, rfl, -⟩ := h
  · exact links
  · exact links.resolve a f

theorem testRaw_resolvedAt (a : AxisId) (s : State) (e : Entry) : ResolvedAt a e (testRaw a s e).2 := by
  unfold testRaw
  split
  · split
    · exact .inr ⟨_, rfl, nofun⟩
    · exact .inr ⟨_, rfl, nofun⟩
    · exact .inr ⟨_, rfl, nofun⟩
    · exact .inl rfl
  · exact .inl rfl

theorem timeoutRaw_resolvedAt (a : AxisId) (s : State) (e : Entry) : ResolvedAt a e (timeoutRaw a s e).2 := by
  unfold timeoutRaw
  split
  · exact .inr ⟨_, rfl, nofun⟩
  · exact .inl rfl

theorem stopRaw_resolvedAt (a : AxisId) (s : State) (e : Entry) : ResolvedAt a e (stopRaw a s e).2 := by
  unfold stopRaw
  split
  · exact .inr ⟨_, rfl, nofun⟩
  · exact .inl rfl

/-- Work on one field after another keeps the links. -/
theorem linked_foldl_fields {op : AxisId → State → Entry → State × Entry}
    (each : ∀ a s e, ResolvedAt a e (op a s e).2) (l : List AxisId) :
    ∀ se : State × Entry, se.2.linked → (l.foldl (fun se a => op a se.1 se.2) se).2.linked := by
  induction l with
  | nil => exact fun _ links => links
  | cons a l ih => exact fun se links => ih _ ((each a se.1 se.2).linked links)

theorem settleComposites_snd (se : State × Entry) : (settleComposites se).2 = se.2.settled := by
  rw [show settleComposites se = _ from settleComposites_eq se.1 se.2]

theorem linked_timeoutTest (timeout : Nat) (t : Time) (s : State) {e : Entry} (links : e.linked) :
    (timeoutTest timeout t s e).2.linked := by
  unfold timeoutTest
  split
  · exact linked_foldl_fields timeoutRaw_resolvedAt allAxes (s, e) links
  · exact links

/-- R138: a new entry that is not complete after its tests waits for a raw field. -/
theorem unresolved_testNew (s : State) {e : Entry} (links : e.linked) (incomplete : (testNew s e).2.complete = false) :
    (testNew s e).2.unresolved := by
  unfold testNew at incomplete ⊢
  rw [settleComposites_snd] at incomplete ⊢
  refine Entry.linked.unresolved_settled (linked_timeoutTest _ _ _ ?_) incomplete
  rw [settleComposites_snd]
  exact (linked_foldl_fields testRaw_resolvedAt allAxes (s, e) links).settled

theorem usesInput_of_compositeInputs {k : CompositeEntry} {ab : AxisId × AxisId} (h : ab ∈ compositeInputs k) :
    usesInput k ab.1 = true ∧ usesInput k ab.2 = true := by
  cases k <;> simp [compositeInputs] at h <;> subst h <;> simp [usesInput]

/-- R137: a new entry awaits the inputs of its copies. -/
theorem linked_newEntry (s : State) (t : Trigger) (record : Bool) (zeroMark : Option AxisId) :
    (newEntry s t record zeroMark).linked := by
  intro c waits
  obtain ⟨k, copied, used⟩ : ∃ k, (newEntry s t record zeroMark).copies[c] = some k ∧ k ≠ .unused := by
    simp only [newEntry, Fin.getElem_fin, Vector.getElem_ofFn, Option.map_eq_some_iff] at waits
    obtain ⟨k, copied, kind⟩ := waits
    refine ⟨k, copied, ?_⟩
    rintro rfl
    cases kind
  obtain ⟨ab, inputs⟩ : ∃ ab, compositeInputs k = some ab := by
    cases k with
    | unused => exact absurd rfl used
    | weighted => exact ⟨_, rfl⟩
    | diffRatio => exact ⟨_, rfl⟩
  have awaited (a : AxisId) (uses : usesInput k a = true) : (newEntry s t record zeroMark).raw[a] ≠ none := by
    have mem : (newEntry s t record zeroMark).copies[c] ∈ (newEntry s t record zeroMark).copies.toList := by
      simp
    have found : (newEntry s t record zeroMark).copies.toList.any (fun c => match c with
        | some e => usesInput e a
        | none => false) = true :=
      List.any_eq_true.2 ⟨_, mem, by rw [copied]; exact uses⟩
    have awaits : awaits (newEntry s t record zeroMark).mask (newEntry s t record zeroMark).windowAxis zeroMark
        (newEntry s t record zeroMark).copies a = true := by
      unfold Machine.awaits
      rw [Bool.or_eq_true]
      exact .inr found
    have raw : (newEntry s t record zeroMark).raw[a] = if Machine.awaits (newEntry s t record zeroMark).mask
        (newEntry s t record zeroMark).windowAxis zeroMark (newEntry s t record zeroMark).copies a then some .waiting
        else none := by
      simp [newEntry]
    rw [raw, if_pos awaits]
    exact nofun
  obtain ⟨first, second⟩ := usesInput_of_compositeInputs inputs
  exact ⟨k, copied, ab, inputs, awaited _ first, awaited _ second⟩

/-! ### Messages only -/

/-- The event has changed messages on their way, and nothing else. -/
def MessagesOnly (s t : State) : Prop := t = { s with bus := t.bus }

theorem MessagesOnly.trans {s t u : State} (first : MessagesOnly s t) (second : MessagesOnly t u) :
    MessagesOnly s u := by
  unfold MessagesOnly at *
  rw [second, first]

theorem MessagesOnly.cap {s t : State} (h : MessagesOnly s t) : t.cap = s.cap := by
  rw [h]

theorem messagesOnly_foldl_fields {op : AxisId → State → Entry → State × Entry}
    (each : ∀ a s e, MessagesOnly s (op a s e).1) (l : List AxisId) :
    ∀ se : State × Entry, MessagesOnly se.1 (l.foldl (fun se a => op a se.1 se.2) se).1 := by
  induction l with
  | nil => exact fun _ => rfl
  | cons a l ih => exact fun se => (each a se.1 se.2).trans (ih _)

theorem settleComposites_messagesOnly (se : State × Entry) : MessagesOnly se.1 (settleComposites se).1 := by
  rw [show settleComposites se = _ from settleComposites_eq se.1 se.2]
  rfl

theorem timeoutTest_messagesOnly (timeout : Nat) (t : Time) (s : State) (e : Entry) :
    MessagesOnly s (timeoutTest timeout t s e).1 := by
  unfold timeoutTest
  split
  · exact messagesOnly_foldl_fields timeoutRaw_state allAxes (s, e)
  · rfl

theorem testNew_messagesOnly (s : State) (e : Entry) : MessagesOnly s (testNew s e).1 := by
  unfold testNew
  exact ((messagesOnly_foldl_fields testRaw_state allAxes (s, e)).trans (settleComposites_messagesOnly _)).trans
    ((timeoutTest_messagesOnly ..).trans (settleComposites_messagesOnly _))

/-! ### The relations -/

/-- What completing entries may change: the index of the free values, the last-edge positions, the error log, and the
messages to FMN, RQU and CAP itself (R144, R145, R154, R194). -/
def Completing (s t : State) : Prop :=
  t = { s with
    freeIndex := t.freeIndex
    cap := { s.cap with lastEdge := t.cap.lastEdge }
    fmn := { s.fmn with flags := t.fmn.flags, counts := t.fmn.counts, first := t.fmn.first }
    bus := { s.bus with
      halts := t.bus.halts, records := t.bus.records, raises := t.bus.raises, reports := t.bus.reports } }

/-- One act of CAP at work on its pending list: a query to FMN, messages to FMN and the engines, a record handed over, a
change of the compare slots, the last-edge positions or the numbering, or the list after a sweep or with a new entry. -/
inductive CaptureStep : State → State → Prop
  | query (s : State) : CaptureStep s s.afterQuery
  | messages (s : State) (zeroMsgs : Vector (List ZeroMsg) 6) (raises : List RaiseMsg) (reports : List ReportMsg) :
      CaptureStep s { s with bus := { s.bus with zeroMsgs := zeroMsgs, raises := raises, reports := reports } }
  | record (s : State) (r : Record) (fits : r.fits) : CaptureStep s (handRecord r s)
  | notes (s : State) (slots : Vector CompareSlot 4) (lastEdge : Vector (Option Int) 8) (nextId : Nat) :
      CaptureStep s { s with cap := { s.cap with slots := slots, lastEdge := lastEdge, nextId := nextId } }
  | swept (s : State) (entries : List Entry) (shorter : entries.length ≤ s.cap.entries.length)
      (waiting : s.entriesUnresolved → ∀ e ∈ entries, e.unresolved) :
      CaptureStep s { s with cap := { s.cap with entries := entries } }
  | placed (s : State) (e : Entry) (room : s.cap.entries.length < 16) (waiting : e.unresolved) :
      CaptureStep s { s with cap := { s.cap with entries := s.cap.entries ++ [e] } }

/-- Work of CAP on its pending list: some such acts, one after another. -/
abbrev CaptureWork : State → State → Prop :=
  Relation.ReflTransGen CaptureStep

/-- What CAP's work leaves as it is, field by field. -/
@[simp] abbrev OutsideCapture (s t : State) : Prop :=
  t.cpt = s.cpt ∧ t.sfl = s.sfl ∧ t.axes = s.axes ∧ t.scu = s.scu ∧ t.rqu = s.rqu ∧ t.mga = s.mga
    ∧ t.pending = s.pending ∧ t.cap.state = s.cap.state ∧ t.cap.map = s.cap.map ∧ t.cap.timeout = s.cap.timeout
    ∧ t.cap.header = s.cap.header ∧ t.cap.windows = s.cap.windows ∧ t.bus.samples = s.bus.samples
    ∧ t.bus.linkEvents = s.bus.linkEvents ∧ t.bus.sources = s.bus.sources ∧ t.bus.slotChecks = s.bus.slotChecks
    ∧ t.fmn.routes = s.fmn.routes

theorem Completing.refl (s : State) : Completing s s := rfl

theorem Completing.trans {s t u : State} (first : Completing s t) (second : Completing t u) : Completing s u := by
  unfold Completing at *
  rw [second, first]

theorem CaptureStep.state {s t : State} (h : CaptureStep s t) :
    t = { s with
      freeIndex := t.freeIndex
      cap := { s.cap with
        slots := t.cap.slots, entries := t.cap.entries, lastEdge := t.cap.lastEdge, nextId := t.cap.nextId }
      fmn := { s.fmn with flags := t.fmn.flags, counts := t.fmn.counts, first := t.fmn.first }
      bus := { s.bus with
        zeroMsgs := t.bus.zeroMsgs, halts := t.bus.halts, records := t.bus.records, raises := t.bus.raises
        reports := t.bus.reports } } := by
  cases h with
  | query => rw [State.afterQuery, State.taintsTaken_state]
  | _ => rfl

/-- What each act keeps, the work keeps. -/
theorem CaptureWork.keeps {P : State → Prop} (acts : ∀ s t, CaptureStep s t → P s → P t) {s t : State}
    (work : CaptureWork s t) (holds : P s) : P t := by
  induction work with
  | refl => exact holds
  | tail _ act ih => exact acts _ _ act ih

theorem CaptureWork.outside {s t : State} (work : CaptureWork s t) : OutsideCapture s t := by
  refine work.keeps (P := OutsideCapture s) (fun u v act same => ?_) (by simp)
  rw [act.state]
  exact same

theorem captureWork_foldl {α : Type} {op : State → α → State} (each : ∀ s x, CaptureWork s (op s x)) (l : List α) :
    ∀ s, CaptureWork s (l.foldl op s) := by
  induction l with
  | nil => exact fun s => .refl
  | cons x l ih => exact fun s => (each s x).trans (ih _)

theorem captureWork_raised (s : State) (l : List RaiseMsg) : CaptureWork s (s.raised l) := .single (.messages ..)

/-- An update of CAP that keeps its settings, its state and its list. -/
theorem captureWork_modCap (s : State) (f : Cap → Cap)
    (keeps : ∀ c, f c = { c with slots := (f c).slots, lastEdge := (f c).lastEdge, nextId := (f c).nextId }) :
    CaptureWork s (s.modCap f) := by
  unfold State.modCap
  rw [keeps s.cap]
  exact .single (.notes ..)

theorem captureWork_report (s : State) (b : Block) (e : Event) : CaptureWork s (s.report b e) :=
  .single (.messages ..)

theorem captureWork_raiseTimes (s : State) (b : Block) (k : ErrorKind) (n : Nat) (d : Int) (times : Nat) :
    CaptureWork s (s.raiseTimes b k n d times) := by
  unfold State.raiseTimes
  split
  · exact .refl
  · exact .single (.messages ..)

theorem captureWork_tellZero (s : State) (a : AxisId) (m : ZeroMsg) : CaptureWork s (s.tellZero a m) :=
  .single (.messages ..)

theorem completing_raised (s : State) (l : List RaiseMsg) : Completing s (s.raised l) := rfl

/-! ### Completion -/

theorem afterQuery_completing (s : State) : Completing s s.afterQuery := by
  unfold Completing State.afterQuery
  rw [State.taintsTaken_state]

theorem completeEntry_completing (s : State) (e : Entry) : Completing s (completeEntry s e) := by
  have query : Completing s (s.report .cap .entriesCompleted).afterQuery :=
    (show Completing s (s.report .cap .entriesCompleted) from rfl).trans (afterQuery_completing _)
  unfold completeEntry
  split
  · refine query.trans ?_
    simp only [gateOrPass, gateRecord, handRecord]
    (repeat' split) <;> rfl
  · exact Completing.refl s

theorem assemble_fits (s : State) (e : Entry) : (assemble s e).fits := by
  have named : (maskAxes e.mask).length ≤ (List.finRange 10).length := List.length_filter_le ..
  simpa [assemble] using named

theorem gateOrPass_captureWork (e : Entry) (r : Record) (s : State) (fits : r.fits) :
    CaptureWork s (gateOrPass e r s) := by
  unfold gateOrPass gateRecord
  split
  · split
    · split
      · exact captureWork_report ..
      · exact captureWork_report ..
      · exact captureWork_report ..
      · exact captureWork_report ..
      · exact (captureWork_modCap s _ fun _ => rfl).trans (.single (.record _ _ fits))
    · exact .single (.record _ _ fits)
  · exact .single (.record _ _ fits)

theorem completeEntry_captureWork (s : State) (e : Entry) : CaptureWork s (completeEntry s e) := by
  unfold completeEntry
  split
  · exact ((captureWork_report s _ _).tail (.query _)).trans (gateOrPass_captureWork _ _ _ (assemble_fits _ _))
  · exact .refl

/-! ### Fields resolved -/

theorem handOutcome_captureWork (e : Entry) (a : AxisId) (r : ZeroResult) (s : State) :
    CaptureWork s (handOutcome e a r s) := by
  unfold handOutcome
  split
  · exact captureWork_tellZero ..
  · exact .refl

theorem testRaw_captureWork (a : AxisId) (s : State) (e : Entry) : CaptureWork s (testRaw a s e).1 := by
  unfold testRaw
  split
  · split
    · dsimp only
      rw [raiseSaturated_eq]
      exact (captureWork_raised _ _).trans (handOutcome_captureWork ..)
    · exact (captureWork_raised _ _).trans (handOutcome_captureWork ..)
    · exact handOutcome_captureWork ..
    · exact .refl
  · exact .refl

theorem timeoutRaw_captureWork (a : AxisId) (s : State) (e : Entry) : CaptureWork s (timeoutRaw a s e).1 := by
  unfold timeoutRaw
  split
  · exact (captureWork_raised _ _).trans (handOutcome_captureWork ..)
  · exact .refl

@[simp] theorem stopRaw_state (a : AxisId) (s : State) (e : Entry) : (stopRaw a s e).1 = s := by
  unfold stopRaw
  split <;> rfl

theorem settleComposites_captureWork (se : State × Entry) : CaptureWork se.1 (settleComposites se).1 := by
  rw [show settleComposites se = _ from settleComposites_eq se.1 se.2]
  exact captureWork_raised ..

/-- Work on one entry, field after field, is work of CAP when each field's is. -/
theorem captureWork_foldl_fields {op : AxisId → State → Entry → State × Entry}
    (each : ∀ a s e, CaptureWork s (op a s e).1) (l : List AxisId) :
    ∀ se : State × Entry, CaptureWork se.1 (l.foldl (fun se a => op a se.1 se.2) se).1 := by
  induction l with
  | nil => exact fun se => .refl
  | cons a l ih => exact fun se => (each a se.1 se.2).trans (ih _)

theorem timeoutTest_captureWork (timeout : Nat) (t : Time) (s : State) (e : Entry) :
    CaptureWork s (timeoutTest timeout t s e).1 := by
  unfold timeoutTest
  split
  · exact captureWork_foldl_fields timeoutRaw_captureWork allAxes (s, e)
  · exact .refl

theorem testNew_captureWork (s : State) (e : Entry) : CaptureWork s (testNew s e).1 := by
  unfold testNew
  exact ((captureWork_foldl_fields testRaw_captureWork allAxes (s, e)).trans (settleComposites_captureWork _)).trans
    ((timeoutTest_captureWork ..).trans (settleComposites_captureWork _))

/-! ### The pending list swept -/

/-- R144: what stays in the list after a sweep is settled, not complete, and came from the list. -/
theorem mem_sweep {work : State → Entry → State × Entry} {d : Entry} (es : List Entry) :
    ∀ s, d ∈ (sweep work es s).2 → ∃ e ∈ es, ∃ u, d = (work u e).2.settled ∧ d.complete = false := by
  induction es with
  | nil => exact fun s h => absurd h (List.not_mem_nil)
  | cons e es ih =>
    intro s h
    have settles := settleComposites_snd (work s e)
    unfold sweep at h
    generalize settleComposites (work s e) = w at h settles
    obtain ⟨u, d'⟩ := w
    dsimp only at h settles
    split at h
    · obtain ⟨x, mem, rest⟩ := ih _ h
      exact ⟨x, List.mem_cons_of_mem _ mem, rest⟩
    next incomplete =>
      obtain rfl | kept := List.mem_cons.1 h
      · exact ⟨e, List.mem_cons_self, s, settles, by simpa using incomplete⟩
      · obtain ⟨x, mem, rest⟩ := ih _ kept
        exact ⟨x, List.mem_cons_of_mem _ mem, rest⟩

theorem sweepPending_captureWork {work : State → Entry → State × Entry} (each : ∀ s e, CaptureWork s (work s e).1)
    (messages : ∀ s e, MessagesOnly s (work s e).1) (links : ∀ s e, e.linked → (work s e).2.linked) (s : State) :
    CaptureWork s (s.sweepPending work) := by
  have swept : CaptureWork s (sweep work s.cap.entries s).1
      ∧ (sweep work s.cap.entries s).1.cap.entries = s.cap.entries := by
    refine sweep_induct (P := fun u => CaptureWork s u ∧ u.cap.entries = s.cap.entries) (fun u e h => ?_)
      (fun u e h => ?_) _ _ ⟨.refl, rfl⟩
    · refine ⟨h.1.trans ((each u e).trans (settleComposites_captureWork _)), ?_⟩
      rw [((messages u e).trans (settleComposites_messagesOnly _)).cap]
      exact h.2
    · refine ⟨h.1.trans (completeEntry_captureWork u e), ?_⟩
      rw [completeEntry_state]
      exact h.2
  refine swept.1.tail (.swept _ _ ?_ fun waiting d hd => ?_)
  · rw [swept.2]
    exact sweep_length ..
  · obtain ⟨e, mem, u, rfl, incomplete⟩ := mem_sweep _ _ hd
    rw [State.entriesUnresolved, swept.2] at waiting
    exact (links u e (waiting e mem).linked).unresolved_settled incomplete

theorem examineAxis_captureWork (a : AxisId) (s : State) : CaptureWork s (examineAxis a s) :=
  sweepPending_captureWork (testRaw_captureWork a) (testRaw_state a) (fun s e => (testRaw_resolvedAt a s e).linked) s

theorem resolveStopped_captureWork (a : AxisId) (s : State) : CaptureWork s (resolveStopped a s) :=
  sweepPending_captureWork (fun s e => by rw [stopRaw_state]) (fun s e => by rw [stopRaw_state]; rfl)
    (fun s e => (stopRaw_resolvedAt a s e).linked) s

theorem timeoutSweep_captureWork (timeout : Nat) (t : Time) (s : State) :
    CaptureWork s (s.sweepPending (timeoutTest timeout t)) :=
  sweepPending_captureWork (timeoutTest_captureWork timeout t) (timeoutTest_messagesOnly timeout t)
    (fun s _ links => linked_timeoutTest timeout t s links) s

/-! ### Triggers -/

theorem dropTrigger_captureWork (t : Trigger) (s : State) : CaptureWork s (dropTrigger t s) :=
  .single (.messages ..)

theorem placeEntry_captureWork {e : Entry} (links : e.linked) {s : State} (room : s.cap.entries.length < 16) :
    CaptureWork s (placeEntry e s) := by
  have taken : CaptureWork s (if e.record then s.report .cap .triggersTaken else s) := by
    split
    · exact captureWork_report ..
    · exact .refl
  have listed : (if e.record then s.report .cap .triggersTaken else s).cap = s.cap := by split <;> rfl
  unfold placeEntry
  generalize (if e.record then s.report .cap .triggersTaken else s) = u at taken listed ⊢
  have tested := taken.trans (testNew_captureWork u e)
  dsimp only
  split
  · exact tested.trans (completeEntry_captureWork ..)
  next incomplete =>
    refine tested.tail (.placed _ _ ?_ (unresolved_testNew u links (by simpa using incomplete)))
    rw [(testNew_messagesOnly u e).cap, listed]
    exact room

theorem takeTrigger_captureWork (t : Trigger) (record : Bool) (zeroMark : Option AxisId) (s : State) :
    CaptureWork s (takeTrigger t record zeroMark s) := by
  unfold takeTrigger
  split
  · exact dropTrigger_captureWork t s
  next room =>
    exact (captureWork_modCap s _ fun _ => rfl).trans
      (placeEntry_captureWork (linked_newEntry s t record zeroMark) (Nat.lt_of_not_le room))

theorem offerOrdinary_captureWork (t : Trigger) (s : State) : CaptureWork s (offerOrdinary t s) := by
  unfold offerOrdinary
  split
  · exact .refl
  · split
    · exact .refl
    · exact takeTrigger_captureWork ..
    · exact captureWork_report ..

theorem takeForZero_captureWork (t : Trigger) (a : AxisId) (s : State) : CaptureWork s (takeForZero t a s) := by
  unfold takeForZero
  dsimp only
  split
  · exact dropTrigger_captureWork t s
  · exact (captureWork_tellZero s a _).trans (takeTrigger_captureWork ..)

theorem offerReference_captureWork (t : Trigger) (a : AxisId) (s : State) : CaptureWork s (offerReference t a s) := by
  unfold offerReference
  split
  · exact takeForZero_captureWork ..
  · exact offerOrdinary_captureWork ..

theorem examineSlot_captureWork (t : Time) (s : State) (j : Fin 4) : CaptureWork s (examineSlot t s j) := by
  unfold examineSlot
  dsimp only
  split
  · exact (((captureWork_report s .cap .compareFires).trans (offerOrdinary_captureWork _ _)).trans
      (captureWork_modCap _ _ fun _ => rfl)).trans (captureWork_raiseTimes ..)
  · exact .refl

/-! ### What each operation leaves unchanged -/

@[simp] theorem completeEntry_outside (s : State) (e : Entry) : OutsideCapture s (completeEntry s e) :=
  (completeEntry_captureWork s e).outside

@[simp] theorem testNew_outside (s : State) (e : Entry) : OutsideCapture s (testNew s e).1 :=
  (testNew_captureWork s e).outside

@[simp] theorem examineAxis_outside (a : AxisId) (s : State) : OutsideCapture s (examineAxis a s) :=
  (examineAxis_captureWork a s).outside

@[simp] theorem resolveStopped_outside (a : AxisId) (s : State) : OutsideCapture s (resolveStopped a s) :=
  (resolveStopped_captureWork a s).outside

@[simp] theorem sweepPending_timeoutTest_outside (timeout : Nat) (t : Time) (s : State) :
    OutsideCapture s (s.sweepPending (timeoutTest timeout t)) :=
  (timeoutSweep_captureWork timeout t s).outside

@[simp] theorem dropTrigger_outside (t : Trigger) (s : State) : OutsideCapture s (dropTrigger t s) :=
  (dropTrigger_captureWork t s).outside

@[simp] theorem takeTrigger_outside (t : Trigger) (record : Bool) (zeroMark : Option AxisId) (s : State) :
    OutsideCapture s (takeTrigger t record zeroMark s) :=
  (takeTrigger_captureWork t record zeroMark s).outside

@[simp] theorem offerOrdinary_outside (t : Trigger) (s : State) : OutsideCapture s (offerOrdinary t s) :=
  (offerOrdinary_captureWork t s).outside

@[simp] theorem offerReference_outside (t : Trigger) (a : AxisId) (s : State) : OutsideCapture s (offerReference t a s) :=
  (offerReference_captureWork t a s).outside

@[simp] theorem foldl_examineSlot_outside (t : Time) (l : List (Fin 4)) (s : State) :
    OutsideCapture s (l.foldl (examineSlot t) s) :=
  (captureWork_foldl (examineSlot_captureWork t) l s).outside

end Sys2Proof.Machine
end

section
/-! SUPPORT. What the engines, the received frames and the owners of requests may change: the relations of the work of each,
and what each operation leaves unchanged. -/

namespace Sys2Proof.Machine

/-! ### The engines -/

/-- What an engine's own work may change: the axes and the messages to FMN (R81, R124 to R126). -/
def EngineWork (s t : State) : Prop :=
  t = { s with
    axes := t.axes
    bus := { s.bus with raises := t.bus.raises, reports := t.bus.reports, sources := t.bus.sources } }

/-- What an engine's work leaves as it is, field by field. -/
@[simp] abbrev OutsideEngines (s t : State) : Prop :=
  t.cpt = s.cpt ∧ t.sfl = s.sfl ∧ t.scu = s.scu ∧ t.cap = s.cap ∧ t.rqu = s.rqu ∧ t.mga = s.mga ∧ t.fmn = s.fmn
    ∧ t.freeIndex = s.freeIndex ∧ t.pending = s.pending ∧ t.bus.samples = s.bus.samples
    ∧ t.bus.linkEvents = s.bus.linkEvents ∧ t.bus.zeroMsgs = s.bus.zeroMsgs ∧ t.bus.records = s.bus.records

theorem EngineWork.refl (s : State) : EngineWork s s := rfl

theorem EngineWork.trans {s t u : State} (first : EngineWork s t) (second : EngineWork t u) : EngineWork s u := by
  unfold EngineWork at *
  rw [second, first]

theorem EngineWork.outside {s t : State} (h : EngineWork s t) : OutsideEngines s t := by
  unfold EngineWork at h
  rw [h]
  exact ⟨rfl, rfl, rfl, rfl, rfl, rfl, rfl, rfl, rfl, rfl, rfl, rfl, rfl⟩

theorem engineWork_modCtx (s : State) (a : AxisId) (f : AxisContext → AxisContext) : EngineWork s (s.modCtx a f) := rfl
theorem engineWork_raise (s : State) (b : Block) (k : ErrorKind) (n : Nat) (d : Int) :
    EngineWork s (s.raise b k n d) := rfl
theorem engineWork_report (s : State) (b : Block) (e : Event) : EngineWork s (s.report b e) := rfl

theorem applyCalEnd_engineWork (s : State) (a : AxisId) (e : CalEnd) : EngineWork s (applyCalEnd s a e) := by
  unfold applyCalEnd
  dsimp only
  split <;> rfl

/-- R117 to R119: the record of a running calibration after a seen sample, before it is tested. -/
def fedRecord (r : CalRecord) : Option (Int × Int × Nat × Int) → CalRecord
  | none => { r with seen := r.seen + 1 }
  | some (c, sn, pc, delta) => feedMotion (feedExtremes { r with seen := r.seen + 1 } c sn) pc delta

theorem offerToCalibration_eq (s : State) (a : AxisId) (strong : Option (Int × Int × Nat × Int)) :
    offerToCalibration s a strong =
      if (s.axes[a]).cal.outcome ≠ .running then s
      else if strong.isSome && calComplete (fedRecord (s.axes[a]).cal strong) then
        applyCalEnd s a (completeCalibration s.axes[a] (fedRecord (s.axes[a]).cal strong))
      else if (fedRecord (s.axes[a]).cal strong).sampleLimit ≤ (fedRecord (s.axes[a]).cal strong).seen then
        applyCalEnd s a (calibrationTimesOut s.axes[a] (fedRecord (s.axes[a]).cal strong))
      else s.modAxis a fun y => { y with cal := fedRecord (s.axes[a]).cal strong } := by
  cases strong <;> rfl

theorem offerToCalibration_engineWork (s : State) (a : AxisId) (strong : Option (Int × Int × Nat × Int)) :
    EngineWork s (offerToCalibration s a strong) := by
  rw [offerToCalibration_eq]
  split
  · rfl
  · split
    · exact applyCalEnd_engineWork ..
    · split
      · exact applyCalEnd_engineWork ..
      · rfl

theorem abortCalibration_engineWork (s : State) (a : AxisId) : EngineWork s (abortCalibration s a) := by
  unfold abortCalibration
  split <;> rfl

theorem raiseAll_engineWork (s : State) (a : AxisId) (errors : List (ErrorKind × Int)) :
    EngineWork s (raiseAll s a errors) := by
  unfold raiseAll
  induction errors generalizing s with
  | nil => exact EngineWork.refl s
  | cons e errors ih => exact (engineWork_raise s _ _ _ _).trans (ih _)

theorem loseAxis_engineWork (a : AxisId) (detail : Int) (s : State) : EngineWork s (loseAxis a detail s) :=
  ((engineWork_modCtx s a _).trans (engineWork_raise _ _ _ _ _)).trans (abortCalibration_engineWork _ a)

theorem checkSilence_engineWork (a : AxisId) (t : Time) (s : State) : EngineWork s (checkSilence a t s) := by
  unfold checkSilence
  dsimp only
  split
  · rfl
  · split
    · exact loseAxis_engineWork a 0 s
    · split <;> rfl

theorem applyZeroTo_engineWork (a : AxisId) (pRef : Int) (tRef : Time) (s : State) :
    EngineWork s (applyZeroTo a pRef tRef s) := by
  unfold applyZeroTo
  dsimp only
  split <;> rfl

theorem takeOutcome_engineWork (a : AxisId) (entry : Nat) (r : ZeroResult) (s : State) :
    EngineWork s (takeOutcome a entry r s) := by
  unfold takeOutcome takeResult
  split
  · split
    · split
      · rfl
      · split
        · exact applyZeroTo_engineWork ..
        · split <;> rfl
    · rfl
  · rfl

@[simp] theorem applyCalEnd_outside (s : State) (a : AxisId) (e : CalEnd) : OutsideEngines s (applyCalEnd s a e) :=
  (applyCalEnd_engineWork s a e).outside

@[simp] theorem offerToCalibration_outside (s : State) (a : AxisId) (strong : Option (Int × Int × Nat × Int)) :
    OutsideEngines s (offerToCalibration s a strong) :=
  (offerToCalibration_engineWork s a strong).outside

@[simp] theorem abortCalibration_outside (s : State) (a : AxisId) : OutsideEngines s (abortCalibration s a) :=
  (abortCalibration_engineWork s a).outside

@[simp] theorem raiseAll_outside (s : State) (a : AxisId) (errors : List (ErrorKind × Int)) :
    OutsideEngines s (raiseAll s a errors) ∧ (raiseAll s a errors).axes = s.axes := by
  refine ⟨(raiseAll_engineWork s a errors).outside, ?_⟩
  unfold raiseAll
  induction errors generalizing s with
  | nil => rfl
  | cons e errors ih => exact ih _

@[simp] theorem checkSilence_outside (a : AxisId) (t : Time) (s : State) : OutsideEngines s (checkSilence a t s) :=
  (checkSilence_engineWork a t s).outside

@[simp] theorem loseAxis_outside (a : AxisId) (detail : Int) (s : State) : OutsideEngines s (loseAxis a detail s) :=
  (loseAxis_engineWork a detail s).outside

@[simp] theorem takeOutcome_outside (a : AxisId) (entry : Nat) (r : ZeroResult) (s : State) :
    OutsideEngines s (takeOutcome a entry r s) :=
  (takeOutcome_engineWork a entry r s).outside

/-! ### The engines with CAP -/

/-- One act in the taking of a sample or a stop: an act of CAP, or of an engine (R69, R74). -/
inductive AxisStep : State → State → Prop
  | capture {s t : State} (act : CaptureStep s t) : AxisStep s t
  | engine (s : State) (axes : Vector Axis 6) (raises : List RaiseMsg) (reports : List ReportMsg)
      (sources : List SourceMsg) : AxisStep s { s with
        axes := axes, bus := { s.bus with raises := raises, reports := reports, sources := sources } }

/-- Some such acts, one after another. -/
abbrev AxisWork : State → State → Prop :=
  Relation.ReflTransGen AxisStep

/-- What that work leaves as it is, field by field. -/
@[simp] abbrev OutsideAxisWork (s t : State) : Prop :=
  t.cpt = s.cpt ∧ t.sfl = s.sfl ∧ t.scu = s.scu ∧ t.rqu = s.rqu ∧ t.mga = s.mga ∧ t.pending = s.pending
    ∧ t.cap.state = s.cap.state ∧ t.cap.map = s.cap.map ∧ t.cap.header = s.cap.header
    ∧ t.cap.windows = s.cap.windows ∧ t.bus.samples = s.bus.samples ∧ t.bus.linkEvents = s.bus.linkEvents

theorem EngineWork.axisWork {s t : State} (h : EngineWork s t) : AxisWork s t := by
  unfold EngineWork at h
  rw [h]
  exact .single (.engine ..)

theorem CaptureWork.axisWork {s t : State} (h : CaptureWork s t) : AxisWork s t :=
  Relation.ReflTransGen.mono (fun _ _ act => AxisStep.capture act) _ _ h

theorem AxisWork.keeps {P : State → Prop} (acts : ∀ s t, AxisStep s t → P s → P t) {s t : State}
    (work : AxisWork s t) (holds : P s) : P t := by
  induction work with
  | refl => exact holds
  | tail _ act ih => exact acts _ _ act ih

theorem AxisWork.outside {s t : State} (work : AxisWork s t) : OutsideAxisWork s t := by
  refine work.keeps (P := OutsideAxisWork s) (fun u v act same => ?_) (by simp)
  cases act with
  | capture act => rw [act.state]; exact same
  | engine => exact same

theorem afterAcceptance_axisWork (a : AxisId) (m : SampleMsg) (pc : Nat) (delta : Int) (s : State) :
    AxisWork s (afterAcceptance a m pc delta s) :=
  ((engineWork_report s _ _).axisWork.trans (examineAxis_captureWork a _).axisWork).trans
    (offerToCalibration_engineWork _ a _).axisWork

theorem takeStrong_axisWork (a : AxisId) (m : SampleMsg) (pc : Nat) (s : State) : AxisWork s (takeStrong a m pc s) := by
  unfold takeStrong
  dsimp only
  split
  · exact (engineWork_modCtx s a _).axisWork.trans (afterAcceptance_axisWork ..)
  · have raised := (engineWork_modCtx s a (acceptSample · m pc (unwrap s.axes[a].settings s.axes[a].ctx m.time pc
      m.period))).trans (raiseAll_engineWork _ a (unwrap s.axes[a].settings s.axes[a].ctx m.time pc m.period).raises)
    refine Relation.ReflTransGen.trans ?_ (afterAcceptance_axisWork ..)
    split
    · exact (raised.trans (engineWork_report _ _ _)).axisWork
    · exact raised.axisWork

theorem takeArrival_axisWork (a : AxisId) (m : SampleMsg) (s : State) : AxisWork s (takeArrival a m s) := by
  unfold takeArrival takeSeen
  dsimp only
  split
  · exact (engineWork_report s _ _).axisWork
  · split
    · exact (engineWork_report s _ _).axisWork
    · have seen (st : AxisSettings) (uv : Int × Int) (weak degraded : Bool) (threshold : Nat) : EngineWork s
          (if degraded then (s.modCtx a fun c => seenContext st c m uv weak).raise (.axe a) .signalDegraded a.val threshold
            else s.modCtx a fun c => seenContext st c m uv weak) := by split <;> rfl
      split
      · exact (((seen ..).trans (engineWork_report _ _ _)).trans (offerToCalibration_engineWork ..)).axisWork
      · exact (seen ..).axisWork.trans (takeStrong_axisWork ..)

theorem stopAxis_axisWork (a : AxisId) (r : Request) (s : State) : AxisWork s (stopAxis a r s).state := by
  unfold stopAxis
  split
  · exact .refl
  · exact ((engineWork_modCtx s a _).trans (abortCalibration_engineWork _ a)).axisWork.trans
      (resolveStopped_captureWork a _).axisWork

@[simp] theorem takeArrival_outside (a : AxisId) (m : SampleMsg) (s : State) : OutsideAxisWork s (takeArrival a m s) :=
  (takeArrival_axisWork a m s).outside

/-! ### Received frames -/

/-- One act in the receiving of a frame (R8 to R18, R32 to R34, R174). -/
inductive ReceiveStep : State → State → Prop
  | offer (s : State) (b : List Byte) (copy : Option Nat) (good : goodFrame b = true) :
      ReceiveStep s (offerForward b copy s)
  | bad (s : State) : ReceiveStep s (countBadFrame s)
  | count (s : State) : ReceiveStep s (countGoodFrame s)
  | messages (s : State) (markers : List MarkerMsg) (envValues : List EnvMsg) (raises : List RaiseMsg)
      (reports : List ReportMsg) : ReceiveStep s { s with bus := { s.bus with
        markers := markers, envValues := envValues, raises := raises, reports := reports } }
  | samples (s : State) (a : AxisId) (l : List SampleMsg) (ranged : ∀ m ∈ l, isS16 m.c ∧ isS16 m.s) :
      ReceiveStep s (s.modBus fun b => { b with samples := modifyAt b.samples a (· ++ l) })
  | advance (s : State) (t : Time) (assigned : s.cpt.station ≠ 0) : ReceiveStep s (advanceTo t s)
  | number (s : State) (station controller : Nat) (positive : station ≠ 0) : ReceiveStep s (s.modCpt fun c =>
      { c with station := station, controller := controller, timer := 0, established := false })
  | copy (s : State) (n : Nat) : ReceiveStep s (s.modCpt fun c => { c with nextCopy := n })
  | intake (s : State) (b : List Byte) (assigned : s.cpt.station ≠ 0) : ReceiveStep s (joinIntake b s)

/-- Some such acts, one after another. -/
abbrev ReceiveWork : State → State → Prop :=
  Relation.ReflTransGen ReceiveStep

/-- What a received frame leaves as it is, field by field. -/
@[simp] abbrev OutsideReceiving (s t : State) : Prop :=
  t.sfl = s.sfl ∧ t.axes = s.axes ∧ t.scu = s.scu ∧ t.cap = s.cap ∧ t.rqu = s.rqu ∧ t.fmn = s.fmn
    ∧ t.pending = s.pending ∧ t.mga.executing = s.mga.executing ∧ t.mga.responses = s.mga.responses
    ∧ t.bus.records = s.bus.records

/-- Offering a frame changes the forward queue, or raises. -/
theorem offerForward_state (b : List Byte) (copy : Option Nat) (s : State) : offerForward b copy s = { s with
    cpt := { s.cpt with forward := (offerForward b copy s).cpt.forward }
    bus := { s.bus with raises := (offerForward b copy s).bus.raises } } := by
  unfold offerForward
  split <;> rfl

/-- A MANAGE frame joins the intake, or raises. -/
theorem joinIntake_state (b : List Byte) (s : State) : joinIntake b s = { s with
    mga := { s.mga with intake := (joinIntake b s).mga.intake }
    bus := { s.bus with raises := (joinIntake b s).bus.raises } } := by
  unfold joinIntake
  split <;> rfl

/-- A good frame counted changes the link-error bucket and its decay, and reports. -/
theorem countGoodFrame_state (s : State) : countGoodFrame s = { s with
    cpt := { s.cpt with decay := (countGoodFrame s).cpt.decay, bucket := (countGoodFrame s).cpt.bucket }
    bus := { s.bus with reports := (countGoodFrame s).bus.reports } } := by
  unfold countGoodFrame
  dsimp only
  split <;> rfl

/-- A bad frame counted changes the link-error bucket, and may raise. -/
theorem countBadFrame_state (s : State) : countBadFrame s = { s with
    cpt := { s.cpt with bucket := min 255 (s.cpt.bucket + 1) }
    bus := { s.bus with raises := (countBadFrame s).bus.raises } } := by
  unfold countBadFrame
  dsimp only
  split <;> rfl

theorem ReceiveWork.keeps {P : State → Prop} (acts : ∀ s t, ReceiveStep s t → P s → P t) {s t : State}
    (work : ReceiveWork s t) (holds : P s) : P t := by
  induction work with
  | refl => exact holds
  | tail _ act ih => exact acts _ _ act ih

theorem ReceiveStep.outside {s t : State} (act : ReceiveStep s t) : OutsideReceiving s t := by
  cases act with
  | offer => rw [offerForward_state]; simp
  | bad => rw [countBadFrame_state]; simp
  | count => rw [countGoodFrame_state]; simp
  | intake => rw [joinIntake_state]; simp
  | advance => simp [advanceTo, handAdvance]
  | _ => simp

theorem ReceiveWork.outside {s t : State} (work : ReceiveWork s t) : OutsideReceiving s t := by
  refine work.keeps (P := OutsideReceiving s) (fun u v act same => ?_) (by simp)
  have step := act.outside
  simp only [OutsideReceiving] at step same ⊢
  simp only [step, same, and_self]

/-- Work that goes over a list keeps what each part needs, when each part is work that keeps it. -/
theorem receiveWork_foldl {α : Type} {op : State → α → State} (each : ∀ s x, ReceiveWork s (op s x)) (l : List α) :
    ∀ s, ReceiveWork s (l.foldl op s) := by
  induction l with
  | nil => exact fun s => .refl
  | cons x l ih => exact fun s => (each s x).trans (ih _)

theorem receiveWork_report (s : State) (b : Block) (e : Event) : ReceiveWork s (s.report b e) :=
  .single (.messages ..)

theorem receiveWork_raise (s : State) (b : Block) (k : ErrorKind) (n : Nat) (d : Int) :
    ReceiveWork s (s.raise b k n d) :=
  .single (.messages ..)

theorem dropBadFrame_receiveWork (b : List Byte) (s : State) : ReceiveWork s (dropBadFrame b s) :=
  ((receiveWork_raise s ..).tail (.bad _)).trans (receiveWork_report ..)

theorem takeAssign_receiveWork {b : List Byte} (good : goodFrame b = true) (s : State) :
    ReceiveWork s (takeAssign b s) := by
  unfold takeAssign
  split
  next takes =>
    have positive : field (framePayload b) 0 1 ≠ 0 := by
      simp only [assignTakes, Bool.and_eq_true, decide_eq_true_iff] at takes
      omega
    exact .tail (.single (.number s _ _ positive)) (.offer _ _ _ (goodFrame_alterByte good (.inr (by decide))))
  next => exact .single (.offer _ _ _ good)

theorem takeCycle_receiveWork {b : List Byte} (good : goodFrame b = true) {s : State} (assigned : s.cpt.station ≠ 0) :
    ReceiveWork s (takeCycle b s) := by
  have kept : ReceiveWork s (keepTime b (s.report .cpt .cycleFrames)) := by
    unfold keepTime
    split
    · exact (receiveWork_report ..).tail (.advance _ _ assigned)
    · exact (receiveWork_report ..).trans (receiveWork_raise ..)
  have claimed (u : State) : goodFrame (claimedFrame b u) = true := by
    unfold claimedFrame
    split
    · exact goodFrame_alterByte good (.inl (by decide))
    · exact good
  exact kept.tail (.offer _ _ _ (claimed _))

theorem sampleOf_ranged (p : List Byte) (i j : Nat) : isS16 (sampleOf p i j).c ∧ isS16 (sampleOf p i j).s := by
  have ranged (off : Nat) : isS16 (signedField p off 2) := by
    have := signedField_mem p off (n := 2) (by decide)
    norm_num at this
    unfold isS16
    omega
  exact ⟨ranged _, ranged _⟩

theorem takePair_receiveWork (station : Nat) (p : List Byte) (s : State) (j : Nat) :
    ReceiveWork s (takePair station p s j) := by
  unfold takePair deliverPair
  split
  · split
    · refine .single (.samples _ _ _ fun m hm => ?_)
      obtain ⟨i, -, rfl⟩ := List.mem_map.1 hm
      exact sampleOf_ranged p i j
    · exact receiveWork_raise ..
  · exact .refl

theorem takeEvent_receiveWork (station : Nat) (p : List Byte) (s : State) (e : Nat) :
    ReceiveWork s (takeEvent station p s e) := by
  unfold takeEvent
  split
  · exact .single (.messages ..)
  · exact .refl

theorem takeValue_receiveWork (p : List Byte) (s : State) (k : Nat) : ReceiveWork s (takeValue p s k) := by
  unfold takeValue
  split
  · exact .single (.messages ..)
  · exact .refl

/-- The frame SFL takes is consumed, or offered once its content has been handed over. -/
theorem forwardUnless_receiveWork (consumed : Bool) {b : List Byte} (good : goodFrame b = true) (s : State) :
    ReceiveWork s (forwardUnless consumed b s) := by
  unfold forwardUnless
  split
  · exact .refl
  · exact .single (.offer _ _ _ good)

/-- What SFL hands over goes over the frame's items, if the content is usable. -/
theorem receiveWork_items {usable : Bool} {op : State → Nat → State} (each : ∀ s x, ReceiveWork s (op s x))
    (l : List Nat) (s : State) : ReceiveWork s (if usable then l.foldl op s else s) := by
  split
  · exact receiveWork_foldl each l s
  · exact .refl

theorem takeManage_receiveWork {b : List Byte} (good : goodFrame b = true) {s : State} (assigned : s.cpt.station ≠ 0) :
    ReceiveWork s (takeManage b s) := by
  unfold takeManage
  split
  · exact ((Relation.ReflTransGen.single (.intake s b assigned)).tail (.copy _ _)).tail (.offer _ _ _ good)
  · split
    · exact .single (.intake s b assigned)
    · exact .single (.offer _ _ _ good)

theorem handleAssigned_receiveWork {b : List Byte} (good : goodFrame b = true) {s : State}
    (assigned : s.cpt.station ≠ 0) : ReceiveWork s (handleAssigned b s) := by
  unfold handleAssigned
  split
  · exact takeCycle_receiveWork good assigned
  · exact (receiveWork_items (takePair_receiveWork _ _) _ _).trans (forwardUnless_receiveWork _ good _)
  · exact (receiveWork_items (takeEvent_receiveWork _ _) _ _).trans (forwardUnless_receiveWork _ good _)
  · exact (receiveWork_items (takeValue_receiveWork _) _ _).trans (forwardUnless_receiveWork _ good _)
  · exact takeManage_receiveWork good assigned
  · exact .single (.offer _ _ _ good)

theorem handleUnassigned_receiveWork {b : List Byte} (good : goodFrame b = true) (s : State) :
    ReceiveWork s (handleUnassigned b s) := by
  unfold handleUnassigned
  split
  · exact takeAssign_receiveWork good s
  · exact .single (.offer _ _ _ good)

theorem assigned_iff (s : State) : assigned s = true ↔ s.cpt.station ≠ 0 := by
  simp [assigned]

theorem receive_receiveWork (b : List Byte) (s : State) : ReceiveWork s (receive b s) := by
  unfold receive
  split
  next good =>
    refine Relation.ReflTransGen.head (.count s) ?_
    dsimp only
    split
    next numbered => exact handleAssigned_receiveWork good ((assigned_iff _).1 numbered)
    next => exact handleUnassigned_receiveWork good _
  next => exact dropBadFrame_receiveWork ..

@[simp] theorem receive_outside (b : List Byte) (s : State) : OutsideReceiving s (receive b s) :=
  (receive_receiveWork b s).outside

end Sys2Proof.Machine
end

section
/-! SUPPORT. The owners of requests: what each changes, and what serving a request therefore leaves unchanged. -/

namespace Sys2Proof.Machine

/-! ### One block changed -/

@[simp] abbrev OnlySfl (s t : State) : Prop :=
  t.cpt = s.cpt ∧ t.axes = s.axes ∧ t.scu = s.scu ∧ t.cap = s.cap ∧ t.rqu = s.rqu ∧ t.mga = s.mga ∧ t.fmn = s.fmn
    ∧ t.bus = s.bus ∧ t.pending = s.pending

@[simp] abbrev OnlyAxes (s t : State) : Prop :=
  t.cpt = s.cpt ∧ t.sfl = s.sfl ∧ t.scu = s.scu ∧ t.cap = s.cap ∧ t.rqu = s.rqu ∧ t.mga = s.mga ∧ t.fmn = s.fmn
    ∧ t.bus = s.bus ∧ t.pending = s.pending

@[simp] abbrev OnlyScu (s t : State) : Prop :=
  t.cpt = s.cpt ∧ t.sfl = s.sfl ∧ t.axes = s.axes ∧ t.cap = s.cap ∧ t.rqu = s.rqu ∧ t.mga = s.mga ∧ t.fmn = s.fmn
    ∧ t.bus = s.bus ∧ t.pending = s.pending

@[simp] abbrev OnlyCap (s t : State) : Prop :=
  t.cpt = s.cpt ∧ t.sfl = s.sfl ∧ t.axes = s.axes ∧ t.scu = s.scu ∧ t.rqu = s.rqu ∧ t.mga = s.mga ∧ t.fmn = s.fmn
    ∧ t.bus = s.bus ∧ t.cap.entries = s.cap.entries ∧ t.pending = s.pending

@[simp] abbrev OnlyRqu (s t : State) : Prop :=
  t.cpt = s.cpt ∧ t.sfl = s.sfl ∧ t.axes = s.axes ∧ t.scu = s.scu ∧ t.cap = s.cap ∧ t.mga = s.mga ∧ t.fmn = s.fmn
    ∧ t.bus.samples = s.bus.samples ∧ t.bus.records = s.bus.records ∧ t.pending = s.pending

@[simp] abbrev OnlyFmn (s t : State) : Prop :=
  t.cpt = s.cpt ∧ t.sfl = s.sfl ∧ t.axes = s.axes ∧ t.scu = s.scu ∧ t.cap = s.cap ∧ t.rqu = s.rqu ∧ t.mga = s.mga
    ∧ t.bus = s.bus ∧ t.pending = s.pending

/-! ### The owners -/

section
variable (r : Request) (s : State)

@[simp] theorem plain_state (status : Status) : (plain s status).state = s := rfl

/-- An owner of a request that names an axis does what its act does, or refuses. -/
theorem onAxis_keeps {P : State → Prop} {act : AxisId → Request → State → Answer} (same : P s)
    (acts : ∀ a, P (act a r s).state) : P (onAxis act r s).state := by
  unfold onAxis
  split
  · exact acts _
  · exact same

@[simp] theorem writeSource_only : OnlySfl s (writeSource r s).state := by
  unfold writeSource
  (repeat' split) <;> simp

@[simp] theorem writeAxis_only : OnlyAxes s (writeAxis r s).state := by
  unfold writeAxis
  (repeat' split) <;> simp

@[simp] theorem writeNonlinear_only : OnlyAxes s (writeNonlinear r s).state := by
  unfold writeNonlinear
  (repeat' split) <;> simp

@[simp] theorem startAxis_only : OnlyAxes s (onAxis startAxis r s).state := by
  refine onAxis_keeps r s (by simp) fun a => ?_
  unfold startAxis
  dsimp only
  split <;> simp

@[simp] theorem acceptAxis_only : OnlyAxes s (onAxis acceptAxis r s).state := by
  refine onAxis_keeps r s (by simp) fun a => ?_
  unfold acceptAxis
  split <;> simp

@[simp] theorem armZero_only : OnlyAxes s (onAxis armZero r s).state := by
  refine onAxis_keeps r s (by simp) fun a => ?_
  unfold armZero
  dsimp only
  (repeat' split) <;> simp

@[simp] theorem presetAxis_only : OnlyAxes s (onAxis presetAxis r s).state := by
  refine onAxis_keeps r s (by simp) fun a => ?_
  unfold presetAxis
  dsimp only
  (repeat' split) <;> simp

@[simp] theorem calibrateAxis_only : OnlyAxes s (onAxis calibrateAxis r s).state := by
  refine onAxis_keeps r s (by simp) fun a => ?_
  unfold calibrateAxis
  dsimp only
  (repeat' split) <;> simp

@[simp] theorem abortAxis_outside : OutsideEngines s (onAxis abortAxis r s).state := by
  refine onAxis_keeps r s (by simp) fun a => ?_
  unfold abortAxis
  split
  · exact (abortCalibration_engineWork s a).outside
  · simp

@[simp] theorem stopAxis_outside : OutsideAxisWork s (onAxis stopAxis r s).state :=
  onAxis_keeps r s (by simp) fun a => (stopAxis_axisWork a r s).outside

@[simp] theorem cancelZero_outside : OutsideAxisWork s (onAxis cancelZero r s).state ∧
    (onAxis cancelZero r s).state.fmn = s.fmn ∧ (onAxis cancelZero r s).state.bus = s.bus := by
  refine onAxis_keeps (P := fun t => OutsideAxisWork s t ∧ t.fmn = s.fmn ∧ t.bus = s.bus) r s (by simp) fun a => ?_
  unfold cancelZero
  split <;> simp

@[simp] theorem reportAxis_state : (onAxis reportAxis r s).state = s :=
  onAxis_keeps (P := fun t => t = s) r s rfl fun _ => rfl

@[simp] theorem answerRead_state : (answerRead r s).state = s := by
  unfold answerRead
  dsimp only
  split <;> rfl

@[simp] theorem writeComposite_only : OnlyScu s (writeComposite r s).state := by
  unfold writeComposite
  (repeat' split) <;> simp

@[simp] theorem writeEnvgroup_only : OnlyScu s (writeEnvgroup r s).state := by
  unfold writeEnvgroup
  (repeat' split) <;> simp

@[simp] theorem writeWindow_only : OnlyCap s (writeWindow r s).state := by
  unfold writeWindow writeHeader writeEntry
  (repeat' split) <;> simp

@[simp] theorem writeCapmap_only : OnlyCap s (writeCapmap r s).state := by
  unfold writeCapmap
  (repeat' split) <;> simp

@[simp] theorem writeCompare_only : OnlyCap s (writeCompare r s).state := by
  unfold writeCompare
  (repeat' split) <;> simp

@[simp] theorem armCapture_only : OnlyCap s (armCapture r s).state := by
  unfold armCapture armed
  (repeat' split) <;> simp

@[simp] theorem captureNow_outside : OutsideCapture s (captureNow r s).state := by
  unfold captureNow
  dsimp only
  (repeat' split) <;> simp

@[simp] theorem drainQueue_only : OnlyRqu s (drainQueue r s).state := by
  unfold drainQueue
  dsimp only
  (repeat' split) <;> simp

@[simp] theorem flushQueue_only : OnlyRqu s (flushQueue r s).state := by
  unfold flushQueue State.reportTimes
  dsimp only
  split <;> simp

@[simp] theorem writeDelivery_only : OnlyRqu s (writeDelivery r s).state := by
  unfold writeDelivery
  split <;> simp

@[simp] theorem clearErrors_only : OnlyFmn s (clearErrors r s).state := by
  unfold clearErrors
  dsimp only
  split <;> simp

@[simp] theorem clearCounters_only : OnlyFmn s (clearCounters r s).state := by
  simp [clearCounters]

@[simp] theorem writeRoute_only : OnlyFmn s (writeRoute r s).state := by
  unfold writeRoute
  split <;> simp

@[simp] theorem writeCountsel_only : OnlyFmn s (writeCountsel r s).state := by
  unfold writeCountsel
  split <;> simp

end

/-! ### STOP CAPTURE and TIMING -/

/-- What the removal of entries by STOP CAPTURE may change: the zero states and what makes the removal known (R135). -/
def Removing (s t : State) : Prop :=
  t = { s with axes := t.axes, bus := { s.bus with zeroMsgs := t.bus.zeroMsgs, reports := t.bus.reports } }

theorem Removing.trans {s t u : State} (first : Removing s t) (second : Removing t u) : Removing s u := by
  unfold Removing at *
  rw [second, first]

theorem removeEntry_removing (s : State) (e : Entry) : Removing s (removeEntry s e) := by
  unfold removeEntry noticeRemoved
  dsimp only
  split
  · split <;> rfl
  · rfl

theorem foldl_removeEntry_removing (l : List Entry) (s : State) : Removing s (l.foldl removeEntry s) := by
  induction l generalizing s with
  | nil => rfl
  | cons e l ih => exact (removeEntry_removing s e).trans (ih _)

theorem stopCapture_state (r : Request) (s : State) : (stopCapture r s).state =
    { s with
      axes := (stopCapture r s).state.axes
      cap := { s.cap with entries := [], state := .stopped }
      bus := { s.bus with
        zeroMsgs := (stopCapture r s).state.bus.zeroMsgs, reports := (stopCapture r s).state.bus.reports } } :=
  foldl_removeEntry_removing s.cap.entries (s.modCap fun c => { c with entries := [], state := .stopped })

/-- What STOP CAPTURE leaves unchanged. -/
@[simp] abbrev OutsideStop (s t : State) : Prop :=
  t.cpt = s.cpt ∧ t.sfl = s.sfl ∧ t.scu = s.scu ∧ t.rqu = s.rqu ∧ t.mga = s.mga ∧ t.fmn = s.fmn
    ∧ t.pending = s.pending ∧ t.bus.samples = s.bus.samples ∧ t.bus.records = s.bus.records

@[simp] theorem stopCapture_outside (r : Request) (s : State) : OutsideStop s (stopCapture r s).state
    ∧ (stopCapture r s).state.cap = { s.cap with entries := [], state := .stopped } := by
  rw [stopCapture_state]
  simp

/-- R20: the chain going down changes its own flag, the raises and what the engines are handed. -/
theorem checkChainDown_eq (s : State) :
    checkChainDown s =
      if s.cpt.station ≠ 0 ∧ s.cpt.down = false ∧ s.cpt.chainLimit ≤ s.cpt.timer then
        { s with
          cpt := { s.cpt with down := true }
          bus := { s.bus with
            raises := s.bus.raises ++ [⟨.cpt, .chainDown, 0, BitVec.ofNat 32 s.cpt.chainLimit, 0⟩]
            linkEvents := s.bus.linkEvents.map (· ++ [.loss]) } }
      else s := by
  unfold checkChainDown assigned
  split
  next down =>
    have holds : s.cpt.station ≠ 0 ∧ s.cpt.down = false ∧ s.cpt.chainLimit ≤ s.cpt.timer := by
      simpa [and_assoc] using down
    rw [if_pos holds]
    rfl
  next up =>
    have fails : ¬(s.cpt.station ≠ 0 ∧ s.cpt.down = false ∧ s.cpt.chainLimit ≤ s.cpt.timer) := by
      simpa [and_assoc] using up
    rw [if_neg fails]

@[simp] abbrev OutsideChainDown (s t : State) : Prop :=
  t.sfl = s.sfl ∧ t.axes = s.axes ∧ t.scu = s.scu ∧ t.cap = s.cap ∧ t.rqu = s.rqu ∧ t.mga = s.mga ∧ t.fmn = s.fmn
    ∧ t.pending = s.pending ∧ t.bus.samples = s.bus.samples ∧ t.bus.records = s.bus.records
    ∧ t.cpt.forward = s.cpt.forward ∧ t.cpt.fairness = s.cpt.fairness ∧ t.cpt.bucket = s.cpt.bucket
    ∧ t.cpt.decay = s.cpt.decay ∧ t.cpt.transmitter = s.cpt.transmitter ∧ t.cpt.station = s.cpt.station
    ∧ t.cpt.timer = s.cpt.timer ∧ t.cpt.established = s.cpt.established

@[simp] theorem checkChainDown_outside (s : State) : OutsideChainDown s (checkChainDown s) := by
  rw [checkChainDown_eq]
  split <;> simp

/-- What a TIMING write leaves unchanged. -/
@[simp] abbrev OutsideTiming (s t : State) : Prop :=
  t.sfl = s.sfl ∧ t.axes = s.axes ∧ t.scu = s.scu ∧ t.rqu = s.rqu ∧ t.mga = s.mga ∧ t.fmn = s.fmn
    ∧ t.pending = s.pending ∧ t.cap.entries = s.cap.entries ∧ t.cap.state = s.cap.state ∧ t.cap.map = s.cap.map
    ∧ t.cap.header = s.cap.header ∧ t.cap.windows = s.cap.windows ∧ t.bus.samples = s.bus.samples
    ∧ t.bus.records = s.bus.records ∧ t.cpt.forward = s.cpt.forward ∧ t.cpt.fairness = s.cpt.fairness
    ∧ t.cpt.bucket = s.cpt.bucket ∧ t.cpt.decay = s.cpt.decay ∧ t.cpt.transmitter = s.cpt.transmitter
    ∧ t.cpt.station = s.cpt.station ∧ t.cpt.timer = s.cpt.timer ∧ t.cpt.established = s.cpt.established

@[simp] theorem writeTiming_outside (r : Request) (s : State) : OutsideTiming s (writeTiming r s).state := by
  unfold writeTiming
  split <;> simp

/-! ### A request served -/

@[simp] theorem placeAnswer_outside (r : Request) (status : Status) (data : List Byte) (s : State) :
    (placeAnswer r status data s).cpt = s.cpt ∧ (placeAnswer r status data s).sfl = s.sfl
      ∧ (placeAnswer r status data s).axes = s.axes ∧ (placeAnswer r status data s).scu = s.scu
      ∧ (placeAnswer r status data s).cap = s.cap ∧ (placeAnswer r status data s).rqu = s.rqu
      ∧ (placeAnswer r status data s).fmn = s.fmn ∧ (placeAnswer r status data s).pending = s.pending
      ∧ (placeAnswer r status data s).bus.samples = s.bus.samples
      ∧ (placeAnswer r status data s).bus.records = s.bus.records
      ∧ (placeAnswer r status data s).mga.intake = s.mga.intake
      ∧ (placeAnswer r status data s).mga.executing = none := by
  rw [placeAnswer_eq]
  refine ⟨rfl, rfl, rfl, rfl, rfl, rfl, rfl, rfl, ?_, ?_, rfl, rfl⟩ <;> dsimp only <;> split <;> rfl

section
variable {mine : Request → Bool} {owner : Request → State → Answer} {s : State}

/-- Serving a request is nothing, or the owner's work with its answer placed. -/
theorem serve_cases (P : State → Prop) (idle : P s)
    (taken : ∀ r, s.mga.executing = some r → mine r = true → P ((owner r s).place r)) : P (serve mine owner s) := by
  unfold serve
  split
  next r executing =>
    split
    next isMine => exact taken r executing isMine
    next => exact idle
  next => exact idle

/-- What the owner keeps and no answer touches is kept by serving the request. -/
theorem serve_keeps {β : Type} (f : State → β) (answers : ∀ r status data u, f (placeAnswer r status data u) = f u)
    (owns : ∀ r, f (owner r s).state = f s) : f (serve mine owner s) = f s :=
  serve_cases (fun t => f t = f s) rfl fun r _ _ => (answers ..).trans (owns r)

@[simp] theorem serve_cpt (h : ∀ r, (owner r s).state.cpt = s.cpt) : (serve mine owner s).cpt = s.cpt :=
  serve_keeps State.cpt (by simp) h
@[simp] theorem serve_sfl (h : ∀ r, (owner r s).state.sfl = s.sfl) : (serve mine owner s).sfl = s.sfl :=
  serve_keeps State.sfl (by simp) h
@[simp] theorem serve_axes (h : ∀ r, (owner r s).state.axes = s.axes) : (serve mine owner s).axes = s.axes :=
  serve_keeps State.axes (by simp) h
@[simp] theorem serve_scu (h : ∀ r, (owner r s).state.scu = s.scu) : (serve mine owner s).scu = s.scu :=
  serve_keeps State.scu (by simp) h
@[simp] theorem serve_cap (h : ∀ r, (owner r s).state.cap = s.cap) : (serve mine owner s).cap = s.cap :=
  serve_keeps State.cap (by simp) h
@[simp] theorem serve_entries (h : ∀ r, (owner r s).state.cap.entries = s.cap.entries) :
    (serve mine owner s).cap.entries = s.cap.entries :=
  serve_keeps (fun t => t.cap.entries) (by simp) h
@[simp] theorem serve_rqu (h : ∀ r, (owner r s).state.rqu = s.rqu) : (serve mine owner s).rqu = s.rqu :=
  serve_keeps State.rqu (by simp) h
@[simp] theorem serve_fmn (h : ∀ r, (owner r s).state.fmn = s.fmn) : (serve mine owner s).fmn = s.fmn :=
  serve_keeps State.fmn (by simp) h
@[simp] theorem serve_pending (h : ∀ r, (owner r s).state.pending = s.pending) :
    (serve mine owner s).pending = s.pending :=
  serve_keeps State.pending (by simp) h
@[simp] theorem serve_samples (h : ∀ r, (owner r s).state.bus.samples = s.bus.samples) :
    (serve mine owner s).bus.samples = s.bus.samples :=
  serve_keeps (fun t => t.bus.samples) (by simp) h
@[simp] theorem serve_records (h : ∀ r, (owner r s).state.bus.records = s.bus.records) :
    (serve mine owner s).bus.records = s.bus.records :=
  serve_keeps (fun t => t.bus.records) (by simp) h

/-- What a request answered by a status alone leaves unchanged. -/
@[simp] theorem serve_plain (status : Status) :
    (serve mine (fun _ s => plain s status) s).cpt = s.cpt ∧ (serve mine (fun _ s => plain s status) s).sfl = s.sfl
      ∧ (serve mine (fun _ s => plain s status) s).axes = s.axes ∧ (serve mine (fun _ s => plain s status) s).scu = s.scu
      ∧ (serve mine (fun _ s => plain s status) s).cap = s.cap ∧ (serve mine (fun _ s => plain s status) s).rqu = s.rqu
      ∧ (serve mine (fun _ s => plain s status) s).fmn = s.fmn
      ∧ (serve mine (fun _ s => plain s status) s).pending = s.pending
      ∧ (serve mine (fun _ s => plain s status) s).bus.samples = s.bus.samples
      ∧ (serve mine (fun _ s => plain s status) s).bus.records = s.bus.records :=
  ⟨serve_cpt fun _ => rfl, serve_sfl fun _ => rfl, serve_axes fun _ => rfl, serve_scu fun _ => rfl,
    serve_cap fun _ => rfl, serve_rqu fun _ => rfl, serve_fmn fun _ => rfl, serve_pending fun _ => rfl,
    serve_samples fun _ => rfl, serve_records fun _ => rfl⟩

end

end Sys2Proof.Machine
end

section
/-! SUPPORT. The transmitter, the record queue, MGA's beginnings and RESTART: what each leaves unchanged; and, component by
component, what any command can do. -/

namespace Sys2Proof.Machine

/-! ### Transmitter, record queue, beginnings, RESTART -/

@[simp] theorem insertWaiting_modCpt (s : State) (f : Cpt → Cpt)
    (_keeps : (f s.cpt).observed = s.cpt.observed) : insertWaiting (s.modCpt f) = insertWaiting s := by
  simp [insertWaiting, offerHolds]

/-- What starting a frame leaves unchanged. -/
@[simp] abbrev OutsideTransmission (s t : State) : Prop :=
  t.sfl = s.sfl ∧ t.axes = s.axes ∧ t.scu = s.scu ∧ t.cap = s.cap ∧ t.fmn = s.fmn ∧ t.pending = s.pending
    ∧ t.bus.samples = s.bus.samples ∧ t.bus.records = s.bus.records ∧ t.mga.intake = s.mga.intake
    ∧ t.mga.executing = s.mga.executing ∧ t.cpt.bucket = s.cpt.bucket ∧ t.cpt.decay = s.cpt.decay
    ∧ t.cpt.station = s.cpt.station ∧ t.cpt.timer = s.cpt.timer ∧ t.cpt.established = s.cpt.established
    ∧ t.cpt.down = s.cpt.down

@[simp] theorem sendInsert_outside (s : State) : OutsideTransmission s (sendInsert s) := by
  unfold sendInsert
  split
  · simp [transmit]
  · simp only [sendRecords, State.reportTimes]
    split <;> simp [transmit]

@[simp] theorem arbitrate_outside (s : State) : OutsideTransmission s (arbitrate s) := by
  unfold arbitrate setFairness sendForward transmit
  split
  · split
    · split <;> simp
    · simp
  · split <;> simp

/-- What a record taken by RQU leaves unchanged. -/
@[simp] abbrev OutsideQueueing (s t : State) : Prop :=
  t.cpt = s.cpt ∧ t.sfl = s.sfl ∧ t.axes = s.axes ∧ t.scu = s.scu ∧ t.cap = s.cap ∧ t.mga = s.mga ∧ t.fmn = s.fmn
    ∧ t.pending = s.pending ∧ t.bus.samples = s.bus.samples ∧ t.bus.records = s.bus.records

@[simp] theorem takeRecord_outside (r : Record) (s : State) : OutsideQueueing s (takeRecord r s) := by
  unfold takeRecord queueWithRoom replaceOldest raiseOverflow
  dsimp only
  (repeat' split) <;> simp

/-- What MGA's beginning of a request leaves unchanged. -/
@[simp] abbrev OutsideBeginning (s t : State) : Prop :=
  t.cpt = s.cpt ∧ t.sfl = s.sfl ∧ t.axes = s.axes ∧ t.scu = s.scu ∧ t.cap = s.cap ∧ t.rqu = s.rqu ∧ t.fmn = s.fmn
    ∧ t.pending = s.pending ∧ t.bus.samples = s.bus.samples ∧ t.bus.records = s.bus.records
    ∧ t.mga.intake = s.mga.intake

@[simp] theorem beginBroadcast_outside (r : Request) (s : State) : OutsideBeginning s (beginBroadcast r s) := by
  unfold beginBroadcast handOn
  split <;> simp

@[simp] theorem beginAddressed_outside (r : Request) (s : State) : OutsideBeginning s (beginAddressed r s) := by
  unfold beginAddressed handOn
  split
  · simp
  · split <;> simp

/-- What a RESTART taken by some blocks leaves unchanged. -/
@[simp] abbrev OutsideRestart (s t : State) : Prop :=
  t.sfl = s.sfl ∧ t.mga = s.mga ∧ t.pending = s.pending ∧ t.bus.samples = s.bus.samples
    ∧ t.cpt.forward = s.cpt.forward ∧ t.cpt.transmitter = s.cpt.transmitter ∧ t.cpt.station = s.cpt.station
    ∧ t.cpt.timer = s.cpt.timer ∧ t.cpt.down = s.cpt.down

@[simp] theorem restartBlock_outside (s : State) (b : Block) : OutsideRestart s (restartBlock s b) := by
  cases b <;> simp [restartBlock, restartCpt]

@[simp] theorem foldl_restartBlock_outside (l : List Block) (s : State) :
    OutsideRestart s (l.foldl restartBlock s) := by
  induction l generalizing s with
  | nil => simp
  | cons b l ih => simp [ih]

/-- A command that RESTART serves does nothing, or some blocks take the RESTART and, once all have, it is answered. -/
theorem takeRestart_keeps {P : State → Prop} (r : Request) (block : Option Block) (s : State)
    (blocks : P ((restartNow s.mga.restartLeft block).foldl restartBlock s))
    (left : ∀ u l, P u → P (u.modMga fun m => { m with restartLeft := l }))
    (settles : ∀ u, P u → P u.settleFairness)
    (ends : ∀ u, P u → P (endRestart r u)) : P (takeRestart r block s) := by
  unfold takeRestart
  dsimp only
  split
  · exact ends _ (settles _ (left _ _ blocks))
  · exact settles _ (left _ _ blocks)

theorem execRestart_keeps {P : State → Prop} (block : Option Block) (s t : State) (same : P s)
    (blocks : ∀ l : List Block, P (l.foldl restartBlock s))
    (left : ∀ u l, P u → P (u.modMga fun m => { m with restartLeft := l }))
    (settles : ∀ u, P u → P u.settleFairness)
    (ends : ∀ r u, P u → P (endRestart r u)) (h : execRestart block s = .next t) : P t := by
  cases h
  split
  · split
    · exact takeRestart_keeps _ block s (blocks _) left settles (ends _)
    · exact same
  · exact same

@[simp] theorem takeFullReset_outside (r : Request) (s : State) : OutsideBeginning s (takeFullReset r s) := by
  unfold takeFullReset
  cases r.broadcast <;> simp

/-- What the work of SCU leaves unchanged. -/
@[simp] abbrev OutsideScaling (s t : State) : Prop :=
  t.cpt = s.cpt ∧ t.sfl = s.sfl ∧ t.axes = s.axes ∧ t.cap = s.cap ∧ t.rqu = s.rqu ∧ t.mga = s.mga ∧ t.fmn = s.fmn
    ∧ t.pending = s.pending ∧ t.bus.samples = s.bus.samples ∧ t.bus.records = s.bus.records

@[simp] theorem takeEnvValue_outside (m : EnvMsg) (s : State) : OutsideScaling s (takeEnvValue m s) := by
  unfold takeEnvValue
  dsimp only
  split <;> split <;> simp

@[simp] theorem checkStale_outside (time : Time) (s : State) (g : GroupId) : OutsideScaling s (checkStale time s g) := by
  unfold checkStale
  dsimp only
  split <;> simp

/-- What FMN's work on raises leaves unchanged. -/
@[simp] abbrev OutsideMonitor (s t : State) : Prop :=
  t.cpt = s.cpt ∧ t.sfl = s.sfl ∧ t.axes = s.axes ∧ t.scu = s.scu ∧ t.cap = s.cap ∧ t.rqu = s.rqu ∧ t.mga = s.mga
    ∧ t.pending = s.pending ∧ t.bus.samples = s.bus.samples ∧ t.bus.records = s.bus.records

@[simp] theorem takeRaises_outside (m : RaiseMsg) (n : Nat) (s : State) : OutsideMonitor s (takeRaises m n s) := by
  rw [takeRaises_state]
  simp

@[simp] theorem tickTimer_outside (s : State) : OutsideReceiving s (tickTimer s)
    ∧ (tickTimer s).bus = s.bus ∧ (tickTimer s).mga = s.mga ∧ (tickTimer s).cpt.forward = s.cpt.forward
    ∧ (tickTimer s).cpt.fairness = s.cpt.fairness ∧ (tickTimer s).cpt.bucket = s.cpt.bucket
    ∧ (tickTimer s).cpt.decay = s.cpt.decay ∧ (tickTimer s).cpt.transmitter = s.cpt.transmitter
    ∧ (tickTimer s).cpt.station = s.cpt.station ∧ (tickTimer s).cpt.established = s.cpt.established
    ∧ (tickTimer s).cpt.down = s.cpt.down := by
  unfold tickTimer
  split <;> simp

@[simp] theorem takeNotice_outside (a : AxisId) (m : ZeroMsg) (s : State) : OnlyAxes s (takeNotice a m s) := by
  simp [takeNotice]

/-- What a message taken from its line leaves unchanged. -/
@[simp] abbrev OutsideLines (s t : State) : Prop :=
  t.cpt = s.cpt ∧ t.sfl = s.sfl ∧ t.axes = s.axes ∧ t.scu = s.scu ∧ t.cap = s.cap ∧ t.rqu = s.rqu ∧ t.mga = s.mga
    ∧ t.fmn = s.fmn ∧ t.pending = s.pending ∧ t.bus.samples = s.bus.samples ∧ t.bus.records = s.bus.records

@[simp] theorem popZeroMsg_outside (a : AxisId) (s : State) : OutsideLines s (popZeroMsg a s) := by
  simp [popZeroMsg]

@[simp] theorem popLinkEvent_outside (a : AxisId) (s : State) : OutsideLines s (popLinkEvent a s) := by
  simp [popLinkEvent]

@[simp] theorem examineSlot_outside (time : Time) (s : State) (j : Fin 4) : OutsideCapture s (examineSlot time s j) :=
  (examineSlot_captureWork time s j).outside

@[simp] theorem decayLinkBucket_outside (s : State) : OutsideReceiving s (decayLinkBucket s)
    ∧ (decayLinkBucket s).bus = s.bus := by
  simp [decayLinkBucket]

/-! ### The full resets -/

/-- A full reset leaves every block at its reset values. -/
@[simp] theorem fullReset_fields (cause : ResetCause) (s : State) :
    (fullReset cause s).cpt = { transmitter := s.cpt.transmitter } ∧ (fullReset cause s).sfl = {}
      ∧ (fullReset cause s).axes = Vector.replicate 6 {} ∧ (fullReset cause s).scu = {} ∧ (fullReset cause s).cap = {}
      ∧ (fullReset cause s).rqu = {} ∧ (fullReset cause s).mga = { cause := cause } ∧ (fullReset cause s).fmn = {}
      ∧ (fullReset cause s).bus = {} ∧ (fullReset cause s).pending = s.pending :=
  ⟨rfl, rfl, rfl, rfl, rfl, rfl, rfl, rfl, rfl, rfl⟩

/-- The chain-down loss taken by an engine keeps what both of its cases keep. -/
theorem chainLoss_keeps {P : State → Prop} (a : AxisId) (s : State) (same : P s) (lost : P (loseAxis a 1 s)) :
    P (if (s.axes[a]).ctx.counting then loseAxis a 1 s else s) := by
  split
  · exact lost
  · exact same

/-! ### The queue of waiting commands -/

theorem exec_goesOn (i : Instr) (s : State) : ∃ t, exec i s = .next t := by
  cases i <;> exact ⟨_, rfl⟩

theorem exec_pending {i : Instr} {s t : State} (h : exec i s = .next t) : t.pending = s.pending := by
  cases i
  case restart block =>
    exact execRestart_keeps (P := fun u => u.pending = s.pending) block s t rfl (by simp) (by simp) (by simp)
      (by simp [endRestart]) h
  case axisChainLoss a =>
    cases h
    split
    · exact chainLoss_keeps (P := fun u => u.pending = s.pending) a (popLinkEvent a s) (by simp) (by simp)
    · rfl
  all_goals (cases h; (repeat' split) <;> simp)

/-- Settles O2: each command has a next state, and each owner, engine and block leaves the queue of commands alone. -/
theorem everyCommandGoesOnAndKeepsTheQueue : Obligations.EveryCommandGoesOnAndKeepsTheQueue := by
  unfold Obligations.EveryCommandGoesOnAndKeepsTheQueue
  intro c s
  obtain ⟨t, h⟩ := exec_goesOn c s
  exact ⟨t, h, exec_pending h⟩

/-- Settles O1: one step runs the front command on the queue's rest, by the definition of `step`. -/
theorem frontCommandRunsOnTheRest : Obligations.FrontCommandRunsOnTheRest := by
  unfold Obligations.FrontCommandRunsOnTheRest
  exact ⟨fun _ _ _ => rfl, fun _ => rfl⟩

/-- What every command keeps whatever it does, every step keeps: an idle step keeps everything, and the queue of commands
is no part of what is kept. -/
theorem step_keeps {P : State → Prop} (queue : ∀ s l, P s → P { s with pending := l })
    (execs : ∀ i s t, P s → exec i s = .next t → P t) {s t : State} (holds : P s) (h : step s = .next t) : P t := by
  unfold step at h
  split at h
  · cases h
    exact holds
  · exact execs _ _ _ (queue _ _ holds) h

end Sys2Proof.Machine
end

section
/-! SUPPORT. The Source Table: what any command can do to it, when a write is accepted, and what two entries' clash means
(R24 to R27). -/

namespace Sys2Proof.Machine

/-! ### What a command does to the table -/

/-- A command leaves the Source Table, empties it by a full reset, or is a write of it. -/
theorem exec_sfl {i : Instr} {s t : State} (h : exec i s = .next t) :
    t.sfl = s.sfl ∨ t.sfl = {} ∨ ∃ r, t.sfl = (writeSource r s).state.sfl := by
  cases i
  case writeTableSource =>
    cases h
    exact serve_cases (P := fun u => u.sfl = s.sfl ∨ u.sfl = {} ∨ ∃ r, u.sfl = (writeSource r s).state.sfl) (.inl rfl)
      fun r _ _ => .inr (.inr ⟨r, by simp [Answer.place]⟩)
  case powerOn | pin | supplyDip => cases h; exact .inr (.inl rfl)
  case fullRequest =>
    cases h
    split
    · exact .inr (.inl rfl)
    · exact .inl rfl
  all_goals refine .inl ?_
  case restart block =>
    exact execRestart_keeps (P := fun u => u.sfl = s.sfl) block s t rfl (by simp) (by simp) (by simp) (by simp [endRestart]) h
  case axisChainLoss a =>
    cases h
    split
    · exact chainLoss_keeps (P := fun u => u.sfl = s.sfl) a (popLinkEvent a s) (by simp) (by simp)
    · rfl
  all_goals (cases h; (repeat' split) <;> simp)

/-! ### The clash of two entries -/

/-- R27, in the manual's words: one kind and one station and channel, one axis, one reference axis or one marker source. -/
theorem entriesClash_iff (x y : SourceEntry) : entriesClash x y = true ↔
    (∃ a b p q, x.kind = .samplePair a p ∧ y.kind = .samplePair b q
        ∧ ((x.station = y.station ∧ x.channel = y.channel) ∨ a = b))
      ∨ (∃ m n a b, x.kind = .marker m a ∧ y.kind = .marker n b
        ∧ ((x.station = y.station ∧ x.channel = y.channel) ∨ m = n ∨ ∃ r, a = some r ∧ b = some r))
      ∨ (x.kind = .environment ∧ y.kind = .environment ∧ x.station = y.station ∧ x.channel = y.channel) := by
  unfold entriesClash
  cases x.kind with
  | samplePair a p => cases y.kind <;> simp [sameClass, sameTarget]
  | marker m a =>
    cases y.kind with
    | marker n b =>
      have reference : (a.isSome = true ∧ a = b) ↔ ∃ r, a = some r ∧ b = some r := by
        cases a <;> simp [eq_comm]
      simp [sameClass, sameTarget, reference]
    | _ => simp [sameClass, sameTarget]
  | environment => cases y.kind <;> simp [sameClass, sameTarget]

theorem entriesClash_comm (x y : SourceEntry) : entriesClash x y = entriesClash y x := by
  rw [Bool.eq_iff_iff, entriesClash_iff, entriesClash_iff]
  constructor
  all_goals
    rintro (⟨a, b, p, q, hx, hy, h⟩ | ⟨m, n, a, b, hx, hy, h⟩ | ⟨hx, hy, h⟩)
    · exact .inl ⟨b, a, q, p, hy, hx, h.imp (fun h => ⟨h.1.symm, h.2.symm⟩) Eq.symm⟩
    · exact .inr (.inl ⟨n, m, b, a, hy, hx, h.imp (fun h => ⟨h.1.symm, h.2.symm⟩)
        (.imp Eq.symm fun ⟨r, ha, hb⟩ => ⟨r, hb, ha⟩)⟩)
    · exact .inr (.inr ⟨hy, hx, h.1.symm, h.2.symm⟩)

theorem sourceClashes_eq_false_iff (t : Vector (Option SourceEntry) 16) (i : Fin 16) (new : Option SourceEntry) :
    sourceClashes t i new = false ↔ ∀ x ∈ new, ∀ j : Fin 16, j ≠ i → ∀ y ∈ t[j], entriesClash x y = false := by
  cases new with
  | none => simp [sourceClashes]
  | some x =>
    simp only [sourceClashes, List.any_eq_false, List.mem_finRange, true_implies, Bool.and_eq_true, bne_iff_ne, ne_eq,
      not_and, Bool.not_eq_true, Option.mem_def, Option.some.injEq, forall_eq']
    refine forall_congr' fun j => imp_congr_right fun _ => ?_
    cases t[j] <;> simp

/-! ### An accepted write -/

theorem entryOf_eq_some {α : Type} {n size : Nat} {decode : List Byte → Option α} {r : Request} {i : Fin n} {x : α} :
    entryOf n size decode r = some (i, x) ↔ r.index = i.val ∧ size ≤ r.args.length ∧ decode r.args = some x := by
  unfold entryOf
  cases position : finOf n r.index with
  | none =>
    have outside := finOf_eq_none.1 position
    simp only [reduceCtorEq, false_iff, not_and]
    omega
  | some k =>
    have inside := finOf_eq_some.1 position
    by_cases enough : size ≤ r.args.length
    · simp [enough, inside, Fin.ext_iff, and_comm]
    · simp [enough]

theorem entryOf_eq_none {α : Type} {n size : Nat} {decode : List Byte → Option α} {r : Request} :
    entryOf n size decode r = none ↔ n ≤ r.index ∨ r.args.length < size ∨ decode r.args = none := by
  unfold entryOf
  cases position : finOf n r.index with
  | none => simp [finOf_eq_none.1 position]
  | some k =>
    have inside : ¬n ≤ r.index := by
      have := finOf_eq_some.1 position
      omega
    by_cases enough : size ≤ r.args.length
    · simp [enough, inside]
    · simp [enough]
      omega

/-- An accepted write replaces one entry by one read from its bytes that clashes with no other; a refused one changes
nothing. -/
theorem writeSource_cases (r : Request) (s : State) : (writeSource r s).state.sfl = s.sfl
    ∨ ∃ i new, sourceOf r.args = some new ∧ sourceClashes s.sfl.table i new = false
      ∧ (writeSource r s).state.sfl = { table := modifyAt s.sfl.table i fun _ => new } := by
  unfold writeSource
  split
  · exact .inl rfl
  next i new accepted =>
    split
    · exact .inl rfl
    · split
      · exact .inl rfl
      next clashes =>
        exact .inr ⟨i, new, (entryOf_eq_some.1 accepted).2.2, Bool.not_eq_true _ ▸ clashes, rfl⟩

@[simp] theorem finOf_val {n : Nat} (i : Fin n) : finOf n i.val = some i :=
  finOf_eq_some.2 rfl

/-- R24, R25: the kind part of an entry, by the fields that its kind uses and their ranges. -/
theorem sourceKindOf_eq_some {b : List Byte} {kind : SourceKind} : sourceKindOf b = some kind ↔ match kind with
    | .samplePair a period => field b 1 1 = 0 ∧ field b 5 1 = a.val ∧ field b 8 2 = period
        ∧ field b 3 1 ≤ 3 ∧ 50 ≤ period ∧ period ≤ 2000
    | .marker m none => field b 1 1 = 1 ∧ field b 5 1 = m.val ∧ field b 6 1 = 0 ∧ field b 3 1 ≤ 7
    | .marker m (some a) =>
        field b 1 1 = 1 ∧ field b 5 1 = m.val ∧ field b 6 1 = 1 ∧ field b 7 1 = a.val ∧ field b 3 1 ≤ 7
    | .environment => field b 1 1 = 2 ∧ field b 3 1 = 0 := by
  constructor
  · intro h
    simp only [sourceKindOf] at h
    split at h
    next isPair =>
      split at h
      next axis =>
        split at h
        next inside => cases h; exact ⟨isPair, finOf_eq_some.1 axis, rfl, inside⟩
        · cases h
      · cases h
    next isMarker =>
      split at h
      next source role =>
        split at h
        next inside => cases h; exact ⟨isMarker, finOf_eq_some.1 source, role, inside⟩
        · cases h
      next source role axis =>
        split at h
        next inside => cases h; exact ⟨isMarker, finOf_eq_some.1 source, role, finOf_eq_some.1 axis, inside⟩
        · cases h
      · cases h
    next isEnvironment =>
      split at h
      next inside => cases h; exact ⟨isEnvironment, inside⟩
      · cases h
    · cases h
  · intro h
    unfold sourceKindOf
    cases kind with
    | samplePair a period =>
      obtain ⟨isPair, axis, periodIs, inside⟩ := h
      simp [isPair, axis, periodIs, inside]
    | marker m reference =>
      cases reference with
      | none =>
        obtain ⟨isMarker, source, role, inside⟩ := h
        simp [isMarker, source, role, inside]
      | some a =>
        obtain ⟨isMarker, source, role, axis, inside⟩ := h
        simp [isMarker, source, role, axis, inside]
    | environment => simp [h]

theorem sourceOf_eq_some_some {b : List Byte} {x : SourceEntry} (h : sourceOf b = some (some x)) :
    flagOf (field b 0 1) = some true ∧ sourceKindOf b = some x.kind ∧ flagOf (field b 4 1) = some x.forward
      ∧ 1 ≤ field b 2 1 ∧ field b 2 1 ≤ 250 ∧ x.station = field b 2 1 ∧ x.channel = field b 3 1 := by
  unfold sourceOf at h
  split at h
  · cases h
  · cases h
  next valid =>
    split at h
    next kind forward hk hf =>
      split at h
      next inside => cases h; exact ⟨valid, hk, hf, inside.1, inside.2, rfl, rfl⟩
      · cases h
    · cases h

theorem sourceOf_inRange {b : List Byte} {x : SourceEntry} (h : sourceOf b = some (some x)) : x.inRange := by
  obtain ⟨-, kind, -, low, high, station, channel⟩ := sourceOf_eq_some_some h
  have fields := sourceKindOf_eq_some.1 kind
  refine ⟨station ▸ low, station ▸ high, ?_⟩
  rw [channel]
  cases hk : x.kind with
  | samplePair a period =>
    rw [hk] at fields
    obtain ⟨-, -, -, ranges⟩ := fields
    exact ranges
  | marker m reference =>
    rw [hk] at fields
    cases reference <;> simp_all
  | environment =>
    rw [hk] at fields
    exact fields.2

/-! ### The invariants -/

/-- R27 is kept by a write: the new entry clashes with no other, and the others did not clash before. -/
theorem sourcesUnique_modifyAt {s t : State} {i : Fin 16} {new : Option SourceEntry} (unique : s.sourcesUnique)
    (fits : sourceClashes s.sfl.table i new = false)
    (written : t.sfl = { table := modifyAt s.sfl.table i fun _ => new }) : t.sourcesUnique := by
  have clashFree := (sourceClashes_eq_false_iff ..).1 fits
  intro j k apart x hx y hy
  simp only [written, modifyAt_get] at hx hy
  split at hx
  next atJ =>
    rw [if_neg (atJ ▸ apart)] at hy
    exact clashFree x hx k (fun same => apart (atJ ▸ same.symm)) y hy
  next notJ =>
    split at hy
    next atK =>
      rw [entriesClash_comm]
      exact clashFree y hy j (fun same => apart (same.trans atK)) x hx
    next => exact unique j k apart x hx y hy

theorem exec_sourcesUnique {i : Instr} {s t : State} (unique : s.sourcesUnique) (h : exec i s = .next t) :
    t.sourcesUnique := by
  obtain same | empty | ⟨r, written⟩ := exec_sfl h
  · unfold State.sourcesUnique
    rwa [same]
  · intro j k _ x hx
    simp [empty] at hx
  · obtain refused | ⟨i, new, -, fits, accepted⟩ := writeSource_cases r s
    · unfold State.sourcesUnique
      rwa [written, refused]
    · exact sourcesUnique_modifyAt unique fits (written.trans accepted)

theorem exec_sourcesInRange {i : Instr} {s t : State} (ranged : s.sourcesInRange) (h : exec i s = .next t) :
    t.sourcesInRange := by
  obtain same | empty | ⟨r, written⟩ := exec_sfl h
  · unfold State.sourcesInRange
    rwa [same]
  · intro j x hx
    simp [empty] at hx
  · obtain refused | ⟨i, new, readFrom, -, accepted⟩ := writeSource_cases r s
    · unfold State.sourcesInRange
      rwa [written, refused]
    · intro j x hx
      simp only [written, accepted, modifyAt_get] at hx
      split at hx
      · rw [Option.mem_def.1 hx] at readFrom
        exact sourceOf_inRange readFrom
      · exact ranged j x hx

/-- Settles O7: only a write changes the table otherwise than a reset does, and an accepted one clashes with no entry. -/
theorem stepKeepsSourcesUnique : Obligations.StepKeepsSourcesUnique := by
  unfold Obligations.StepKeepsSourcesUnique
  exact ⟨fun s t holds h => step_keeps (P := State.sourcesUnique) (fun _ _ h => h) (fun _ _ _ => exec_sourcesUnique) holds h,
    fun s t holds h => step_keeps (P := State.sourcesInRange) (fun _ _ h => h) (fun _ _ _ => exec_sourcesInRange) holds h,
    entriesClash_iff⟩

end Sys2Proof.Machine
end

section
/-! SUPPORT. The events of CAP and the samples an engine takes, as work after a message is taken from its line; and the
error log that every command keeps consistent (R190, R191, R197). -/

namespace Sys2Proof.Machine

/-! ### Events of CAP, and samples taken -/

/-- The events CAP takes from SFL and CPT. -/
def Instr.isCaptureEvent : Instr → Bool
  | .edgeTrigger | .referenceEvent | .captureTimeout | .compareFire => true
  | _ => false

/-- Such an event is work of CAP once its message has left the line. -/
theorem exec_captureEvent {i : Instr} (event : Instr.isCaptureEvent i = true) {s t : State} (h : exec i s = .next t) :
    ∃ markers capAdvances slotChecks, CaptureWork { s with bus := { s.bus with
      markers := markers, capAdvances := capAdvances, slotChecks := slotChecks } } t := by
  cases i
  case edgeTrigger =>
    cases h
    split
    · split
      · exact ⟨_, s.bus.capAdvances, s.bus.slotChecks, offerOrdinary_captureWork _ _⟩
      · exact ⟨s.bus.markers, s.bus.capAdvances, s.bus.slotChecks, .refl⟩
    · exact ⟨s.bus.markers, s.bus.capAdvances, s.bus.slotChecks, .refl⟩
  case referenceEvent =>
    cases h
    split
    · split
      · exact ⟨s.bus.markers, s.bus.capAdvances, s.bus.slotChecks, .refl⟩
      · exact ⟨_, s.bus.capAdvances, s.bus.slotChecks, offerReference_captureWork _ _ _⟩
    · exact ⟨s.bus.markers, s.bus.capAdvances, s.bus.slotChecks, .refl⟩
  case captureTimeout =>
    cases h
    split
    · exact ⟨s.bus.markers, s.bus.capAdvances, s.bus.slotChecks, .refl⟩
    · exact ⟨s.bus.markers, _, _, timeoutSweep_captureWork _ _ _⟩
  case compareFire =>
    cases h
    split
    · exact ⟨s.bus.markers, s.bus.capAdvances, s.bus.slotChecks, .refl⟩
    · exact ⟨s.bus.markers, s.bus.capAdvances, _, captureWork_foldl (examineSlot_captureWork _) _ _⟩
  all_goals cases event

/-- A sample taken is the work of an engine and of CAP once it has left the line. -/
theorem exec_sampleArrival {a : AxisId} {s t : State} (h : exec (.sampleArrival a) s = .next t) :
    ∃ samples : Vector (List SampleMsg) 6, (∀ b : AxisId, samples[b] ⊆ s.bus.samples[b])
      ∧ AxisWork { s with bus := { s.bus with samples := samples } } t := by
  cases h
  split
  · exact ⟨s.bus.samples, fun _ => List.Subset.refl _, .refl⟩
  · refine ⟨_, fun b => ?_, takeArrival_axisWork a _ _⟩
    rw [modifyAt_get]
    split
    · exact List.drop_subset 1 _
    · exact List.Subset.refl _

/-- An act of CAP or of an engine, in one. -/
theorem AxisStep.keeps {P : State → Prop} (capture : ∀ s t, CaptureStep s t → P s → P t)
    (engine : ∀ s axes raises reports sources, P s → P { s with
      axes := axes, bus := { s.bus with raises := raises, reports := reports, sources := sources } }) :
    ∀ s t, AxisStep s t → P s → P t := by
  intro s t act holds
  cases act with
  | capture act => exact capture _ _ act holds
  | engine => exact engine _ _ _ _ _ holds

/-! ### The error log -/

/-- R190, R191: raises taken keep the log consistent: the kind is flagged and counted, and FIRST holds a flagged kind. -/
theorem logLegal_fillFirst {f : Fmn} (legal : f.logLegal) (k : ErrorKind) (subject : Nat) (detail : BitVec 32)
    (now : Time) {times : Nat} (positive : 0 < times) :
    (fillFirst k subject detail now (recordRaise k times f)).logLegal := by
  obtain ⟨kinds, counters, first⟩ := legal
  have flags (i : Fin 23) : (f.flags.set k.index.val true k.index.isLt)[i] = if k.index = i then true else f.flags[i] := by
    simp [Vector.getElem_set, Fin.ext_iff]
  refine ⟨fun i => ?_, counters, fun x hx => ?_⟩
  · obtain ⟨bound, flagged⟩ := kinds i
    simp only [fillFirst, recordRaise, flags, modifyAt_get]
    split
    · refine ⟨Nat.min_le_left .., ?_⟩
      simp only [true_iff]
      omega
    · exact ⟨bound, flagged⟩
  · simp only [fillFirst, recordRaise, flags] at hx ⊢
    cases hf : f.first with
    | none =>
      simp only [hf, Option.mem_def, Option.some.injEq] at hx
      simp [← hx]
    | some y =>
      simp only [hf, Option.mem_def, Option.some.injEq] at hx
      have := first y hf
      split
      · rfl
      · rw [← hx]; exact this

theorem logLegal_takeRaises {s : State} (legal : s.fmn.logLegal) (m : RaiseMsg) {n : Nat} (positive : 0 < n) :
    (takeRaises m n s).fmn.logLegal := by
  unfold takeRaises
  dsimp only
  split <;> exact logLegal_fillFirst legal _ _ _ _ positive

theorem logLegal_takeTaints (l : List RaiseMsg) {s : State} (legal : s.fmn.logLegal) :
    (takeTaints l s).1.fmn.logLegal := by
  induction l generalizing s with
  | nil => exact legal
  | cons m rest ih =>
    unfold takeTaints
    split
    · exact ih (logLegal_takeRaises legal m (Nat.succ_pos _))
    · exact ih legal

theorem CaptureStep.logLegal {s t : State} (act : CaptureStep s t) (legal : s.fmn.logLegal) : t.fmn.logLegal := by
  cases act with
  | query => exact logLegal_takeTaints s.bus.raises legal
  | _ => exact legal

theorem AxisStep.logLegal {s t : State} : AxisStep s t → s.fmn.logLegal → t.fmn.logLegal :=
  AxisStep.keeps (P := fun u => u.fmn.logLegal) (fun _ _ => CaptureStep.logLegal) (fun _ _ _ _ _ h => h) s t

theorem logLegal_setSource {f : Fmn} (legal : f.logLegal) (w : AttentionSource) : (setSource w f).logLegal := by
  cases w <;> exact legal

theorem logLegal_countEvent {f : Fmn} (legal : f.logLegal) (e : Event) : (countEvent e f).logLegal := by
  obtain ⟨kinds, counters, first⟩ := legal
  refine ⟨kinds, fun j => ⟨?_, (counters j).2⟩, first⟩
  simp only [countEvent, Fin.getElem_fin, Vector.getElem_ofFn]
  split
  · exact Nat.min_le_left ..
  · exact (counters j).1

theorem clearNamed_flags (mask : Nat) (f : Fmn) (i : Fin 23) :
    (clearNamed mask f).flags[i] = (f.flags[i] && !mask.testBit (i.val + 1)) := by
  simp [clearNamed]

theorem clearNamed_counts (mask : Nat) (f : Fmn) (i : Fin 23) :
    (clearNamed mask f).counts[i] = if mask.testBit (i.val + 1) then 0 else f.counts[i] := by
  simp [clearNamed]

theorem clearNamed_first (mask : Nat) (f : Fmn) :
    (clearNamed mask f).first = f.first.filter fun x => !mask.testBit x.kind.number := by
  cases hf : f.first with
  | none => simp [clearNamed, hf]
  | some x => cases named : mask.testBit x.kind.number <;> simp [clearNamed, hf, namesFirst, named, Option.filter]

/-- R192: a cleared kind has neither flag nor count, and FIRST goes with its kind. -/
theorem logLegal_clearNamed {f : Fmn} (legal : f.logLegal) (mask : Nat) : (clearNamed mask f).logLegal := by
  obtain ⟨kinds, counters, first⟩ := legal
  refine ⟨fun i => ?_, by simpa [clearNamed] using counters, fun x hx => ?_⟩
  · rw [clearNamed_flags, clearNamed_counts]
    cases mask.testBit (i.val + 1)
    · simpa using kinds i
    · simp
  · rw [clearNamed_first, Option.mem_def, Option.filter_eq_some_iff] at hx
    obtain ⟨held, spared⟩ := hx
    rw [clearNamed_flags, first x held]
    exact spared

theorem logLegal_clearCounted {f : Fmn} (legal : f.logLegal) (mask : Nat) : (clearCounted mask f).logLegal := by
  obtain ⟨kinds, counters, first⟩ := legal
  refine ⟨kinds, fun j => ⟨?_, (counters j).2⟩, first⟩
  simp only [clearCounted, Fin.getElem_fin, Vector.getElem_ofFn]
  split
  · exact Nat.zero_le _
  · exact (counters j).1

theorem logLegal_restartFmn {f : Fmn} (legal : f.logLegal) : (restartFmn f).logLegal := by
  obtain ⟨kinds, counters, first⟩ := legal
  exact ⟨kinds, fun j => ⟨by simp [restartFmn], (counters j).2⟩, first⟩

theorem selectionOf_le {b : List Byte} {e : Nat} (h : selectionOf b = some e) : e ≤ 27 := by
  unfold selectionOf at h
  split at h
  next inside => cases h; exact inside
  · cases h

theorem logLegal_writeCountsel {s : State} (legal : s.fmn.logLegal) (r : Request) :
    (writeCountsel r s).state.fmn.logLegal := by
  unfold writeCountsel
  split
  · exact legal
  next j new accepted =>
    obtain ⟨kinds, counters, first⟩ := legal
    have bound : new ≤ 27 := selectionOf_le (entryOf_eq_some.1 accepted).2.2
    refine ⟨kinds, fun k => ?_, first⟩
    simp only [plain_state, State.modFmn_fmn, modifyAt_get]
    split
    · exact ⟨Nat.zero_le _, bound⟩
    · exact counters k

theorem logLegal_writeRoute {s : State} (legal : s.fmn.logLegal) (r : Request) :
    (writeRoute r s).state.fmn.logLegal := by
  unfold writeRoute
  split <;> exact legal

theorem logLegal_clearErrors {s : State} (legal : s.fmn.logLegal) (r : Request) :
    (clearErrors r s).state.fmn.logLegal := by
  unfold clearErrors
  dsimp only
  split
  · exact legal
  · exact logLegal_clearNamed legal _

theorem logLegal_captureNow {s : State} (legal : s.fmn.logLegal) (r : Request) :
    (captureNow r s).state.fmn.logLegal := by
  unfold captureNow
  dsimp only
  split
  · exact legal
  · exact legal
  · split
    · exact legal
    · split
      · exact legal
      · exact (takeTrigger_captureWork _ _ _ s).keeps (P := fun u => u.fmn.logLegal) (fun _ _ => CaptureStep.logLegal) legal

theorem logLegal_restartBlock {s : State} (legal : s.fmn.logLegal) (b : Block) : (restartBlock s b).fmn.logLegal := by
  cases b with
  | fmn => exact logLegal_restartFmn legal
  | _ => exact legal

theorem logLegal_foldl_restartBlock (l : List Block) {s : State} (legal : s.fmn.logLegal) :
    (l.foldl restartBlock s).fmn.logLegal := by
  induction l generalizing s with
  | nil => exact legal
  | cons b l ih => exact ih (logLegal_restartBlock legal b)

theorem logLegal_reset : (State.reset).fmn.logLegal := by
  refine ⟨fun i => ?_, fun j => ?_, fun x hx => ?_⟩
  · simp [State.reset]
  · simp only [State.reset, Fin.getElem_fin, Vector.getElem_replicate, Vector.getElem_ofFn]
    omega
  · simp [State.reset] at hx

/-- A served request keeps the log when its owner does. -/
theorem logLegal_serve {mine : Request → Bool} {owner : Request → State → Answer} {s : State} (legal : s.fmn.logLegal)
    (owns : ∀ r, (owner r s).state.fmn.logLegal) : (serve mine owner s).fmn.logLegal :=
  serve_cases (P := fun u => u.fmn.logLegal) legal fun r _ _ => by
    rw [Answer.place, (placeAnswer_outside ..).2.2.2.2.2.2.1]
    exact owns r

theorem exec_logLegal {i : Instr} {s t : State} (legal : s.fmn.logLegal) (h : exec i s = .next t) : t.fmn.logLegal := by
  have captured {u : State} (work : CaptureWork u t) (start : u.fmn.logLegal) : t.fmn.logLegal :=
    work.keeps (P := fun u => u.fmn.logLegal) (fun _ _ => CaptureStep.logLegal) start
  cases i
  case edgeTrigger | referenceEvent | captureTimeout | compareFire =>
    obtain ⟨_, _, _, work⟩ := exec_captureEvent rfl h
    exact captured work legal
  case sampleArrival =>
    obtain ⟨_, -, work⟩ := exec_sampleArrival h
    exact work.keeps (P := fun u => u.fmn.logLegal) (fun _ _ => AxisStep.logLegal) legal
  case axisStop =>
    cases h
    exact logLegal_serve legal fun r => onAxis_keeps (P := fun u => u.fmn.logLegal) r s legal fun a =>
      (stopAxis_axisWork a r s).keeps (P := fun u => u.fmn.logLegal) (fun _ _ => AxisStep.logLegal) legal
  case manualCapture => cases h; exact logLegal_serve legal (logLegal_captureNow legal)
  case clearErrors => cases h; exact logLegal_serve legal (logLegal_clearErrors legal)
  case clearCounters => cases h; exact logLegal_serve legal fun r => logLegal_clearCounted legal _
  case writeTableRoute => cases h; exact logLegal_serve legal (logLegal_writeRoute legal)
  case writeTableCountsel => cases h; exact logLegal_serve legal (logLegal_writeCountsel legal)
  case errorRaise =>
    cases h
    split
    · exact legal
    · exact logLegal_takeRaises (s := State.modBus s _) legal _ Nat.one_pos
  case attentionSourceRaise =>
    cases h
    split
    · exact legal
    · exact logLegal_setSource legal _
  case eventReport =>
    cases h
    split
    · exact legal
    · exact logLegal_countEvent legal _
  case powerOn | pin | supplyDip => cases h; exact logLegal_reset
  case fullRequest =>
    cases h
    split
    · exact logLegal_reset
    · exact legal
  case restart block =>
    exact execRestart_keeps (P := fun u => u.fmn.logLegal) block s t legal
      (fun l => logLegal_foldl_restartBlock l legal) (fun _ _ h => h)
      (fun u h => by rw [State.settleFairness_fmn]; exact h) (fun r u h => by simpa [endRestart] using h) h
  case axisChainLoss a =>
    cases h
    split
    · exact chainLoss_keeps (P := fun u => u.fmn.logLegal) a (popLinkEvent a s) legal
        (by rw [(loseAxis_outside a 1 _).2.2.2.2.2.2.1]; exact legal)
    · exact legal
  all_goals
    refine (?_ : t.fmn = s.fmn) ▸ legal
    cases h
    (repeat' split) <;> simp

/-- Settles O9: every command keeps the log consistent. -/
theorem stepKeepsErrorLogConsistent : Obligations.StepKeepsErrorLogConsistent := by
  unfold Obligations.StepKeepsErrorLogConsistent
  intro s t holds h
  exact step_keeps (P := fun u => u.fmn.logLegal) (fun _ _ h => h) (fun _ _ _ => exec_logLegal) holds h

end Sys2Proof.Machine
end

section
/-! SUPPORT. The sizes of the encodings: table entries (R184), records (R7) and
the data of answers (R179, R185, R196, R198). -/

namespace Sys2Proof.Machine

@[simp] theorem length_sourceBytes (e : Option SourceEntry) : (sourceBytes e).length = 10 := by
  cases e <;> simp [sourceBytes]

@[simp] theorem length_axisSettingsBytes (x : AxisSettings) : (axisSettingsBytes x).length = 43 := by
  simp [axisSettingsBytes]

@[simp] theorem length_compositeBytes (e : CompositeEntry) : (compositeBytes e).length = 14 := by
  cases e <;> simp [compositeBytes]

@[simp] theorem length_groupBytes (g : EnvGroup) : (groupBytes g).length = 27 := by
  simp [groupBytes]

@[simp] theorem length_windowEntryBytes (w : WindowEntry) : (windowEntryBytes w).length = 14 := by
  simp [windowEntryBytes]

@[simp] theorem length_windowHeaderBytes (h : WindowHeader) : (windowHeaderBytes h).length = 8 := by
  simp [windowHeaderBytes]

@[simp] theorem length_lastEdgeBytes (p : Option Int) : (lastEdgeBytes p).length = 7 := by
  cases p <;> simp [lastEdgeBytes]

@[simp] theorem length_capMapBytes (e : CapMapEntry) : (capMapBytes e).length = 3 := by
  simp [capMapBytes]

@[simp] theorem length_compareSlotBytes (c : CompareSlot) : (compareSlotBytes c).length = 11 := by
  simp [compareSlotBytes]

@[simp] theorem length_deliveryBytes (d : Delivery) : (deliveryBytes d).length = 8 := by
  simp [deliveryBytes]

@[simp] theorem length_timingBytes (timeout limit : Nat) : (timingBytes timeout limit).length = 6 := by
  simp [timingBytes]

/-! ### Reads -/

/-- Back to back, items of one size take their number times the size. -/
theorem length_flatMap_of_forall {α : Type} {f : α → List Byte} {size : Nat} {l : List α}
    (each : ∀ x ∈ l, (f x).length = size) : (l.flatMap f).length = l.length * size := by
  induction l with
  | nil => simp
  | cons x l ih =>
    rw [List.flatMap_cons, List.length_append, each x List.mem_cons_self,
      ih fun y hy => each y (List.mem_cons_of_mem _ hy), List.length_cons]
    ring

theorem length_headerBytes (c : Cap) : (headerBytes c).length = 64 := by
  have edges : (c.lastEdge.toList.flatMap lastEdgeBytes).length = 8 * 7 :=
    (length_flatMap_of_forall fun p _ => length_lastEdgeBytes p).trans (by simp)
  rw [headerBytes, List.length_append, edges, length_windowHeaderBytes]

theorem length_entryAt {α : Type} {n i size : Nat} {v : Vector α n} {f : α → List Byte} (inside : i < n)
    (each : ∀ x, (f x).length = size) : (entryAt v i f).length = size := by
  simp [entryAt, finOf, inside, each]

/-- R180: the tables are numbered 1 … 12. -/
theorem table_of_tableShape {table : Nat} {shape : Nat × Nat} (h : tableShape table = some shape) :
    table ∈ [1, 2, 3, 4, 5, 6, 7, 8, 9, 10, 11, 12] := by
  by_contra outside
  simp only [List.mem_cons, List.not_mem_nil, or_false, not_or] at outside
  have none : tableShape table = none := by
    unfold tableShape
    split <;> simp_all
  rw [none] at h
  cases h

/-- R180: each entry of a table is read in the table's size. -/
theorem length_readEntry (s : State) {table i indices size : Nat} (shape : tableShape table = some (indices, size))
    (inside : i < indices) : (readEntry s table i).length = size := by
  have number := table_of_tableShape shape
  simp only [List.mem_cons, List.not_mem_nil, or_false] at number
  obtain rfl | rfl | rfl | rfl | rfl | rfl | rfl | rfl | rfl | rfl | rfl | rfl := number <;> cases shape
  · change (entryAt s.sfl.table i sourceBytes).length = 10
    exact length_entryAt inside fun _ => length_sourceBytes _
  · change (entryAt s.axes i fun x => axisSettingsBytes x.settings).length = 43
    exact length_entryAt inside fun _ => length_axisSettingsBytes _
  · change (entryAt s.axes (i / 64) fun x => entryAt x.nonlinear (i % 64) (leInt 1)).length = 1
    exact length_entryAt (by omega) fun _ => length_entryAt (Nat.mod_lt _ (by decide)) fun z => length_leInt 1 z
  · change (entryAt s.scu.composites i compositeBytes).length = 14
    exact length_entryAt inside fun _ => length_compositeBytes _
  · change (entryAt s.scu.groups i groupBytes).length = 27
    exact length_entryAt inside fun _ => length_groupBytes _
  · have entry : readEntry s 6 i = entryAt s.cap.windows i windowEntryBytes := if_neg (by omega)
    rw [entry]
    exact length_entryAt inside fun _ => length_windowEntryBytes _
  · change (entryAt s.cap.map i capMapBytes).length = 3
    exact length_entryAt inside fun _ => length_capMapBytes _
  · change (entryAt s.cap.slots i compareSlotBytes).length = 11
    exact length_entryAt inside fun _ => length_compareSlotBytes _
  · change (entryAt s.fmn.routes i fun r => [routeByte r]).length = 1
    exact length_entryAt inside fun _ => rfl
  · change (entryAt s.fmn.selections i (leBytes 1)).length = 1
    exact length_entryAt inside fun _ => length_leBytes 1 _
  · exact length_deliveryBytes s.rqu.delivery
  · exact length_timingBytes s.cap.timeout s.cpt.chainLimit

/-- R181: a read in range of entries 0 … of the table takes their number times the size. -/
theorem length_readRange (s : State) {table first count indices size : Nat}
    (shape : tableShape table = some (indices, size)) (inside : first + count ≤ indices) :
    (readRange s table first count).length = count * size := by
  rw [readRange, length_flatMap_of_forall fun k hk => length_readEntry s shape (by simp at hk; omega), List.length_range]

theorem length_readRange_header (s : State) {table first count : Nat} (header : readsHeader table first count = true) :
    (readRange s table first count).length = 64 := by
  simp only [readsHeader, Bool.and_eq_true, beq_iff_eq] at header
  obtain ⟨⟨rfl, rfl⟩, rfl⟩ := header
  simp [readRange, readEntry, length_headerBytes]

/-- R181: what a read in range must be. -/
theorem readInRange_iff (table first count : Nat) : readInRange table first count = true ↔
    1 ≤ count ∧ (readsHeader table first count = true ∨ ∃ shape, tableShape table = some shape
      ∧ first + count ≤ shape.1 ∧ count * shape.2 ≤ 510) := by
  unfold readInRange
  cases hs : tableShape table with
  | none =>
    have notHeader : readsHeader table first count = false := by
      by_contra header
      simp only [readsHeader, Bool.not_eq_false, Bool.and_eq_true, beq_iff_eq] at header
      obtain ⟨⟨rfl, -⟩, -⟩ := header
      cases hs
    simp [notHeader]
  | some shape => simp

theorem length_readRange_le (s : State) {table first count : Nat} (inRange : readInRange table first count = true) :
    (readRange s table first count).length ≤ 510 := by
  obtain ⟨-, header | ⟨⟨indices, size⟩, shape, inside, fits⟩⟩ := (readInRange_iff ..).1 inRange
  · rw [length_readRange_header s header]
    decide
  · rw [length_readRange s shape inside]
    exact fits

/-! ### Answers and records -/

@[simp] theorem length_timeBytes (h : Option HistEntry) : (timeBytes h).length = 6 := by
  cases h <;> simp [timeBytes]

@[simp] theorem length_coefficientBytes (z : Int) : (coefficientBytes z).length = 2 := by
  unfold coefficientBytes
  split <;> simp

@[simp] theorem length_countItems (c : AxisContext) : (countItems c).length = 47 := by
  simp [countItems]

@[simp] theorem length_scaleItems (x : Axis) (applied : Int) : (scaleItems x applied).length = 16 := by
  simp [scaleItems]

@[simp] theorem length_zeroItems (c : AxisContext) : (zeroItems c).length = 20 := by
  simp [zeroItems]

@[simp] theorem length_calibrationItems (r : CalRecord) : (calibrationItems r).length = 39 := by
  simp [calibrationItems]

@[simp] theorem length_statusBytes (x : Axis) (applied : Int) : (statusBytes x applied).length = 122 := by
  simp [statusBytes]

@[simp] theorem length_identityBytes (s : State) : (identityBytes s).length = 19 := by
  simp [identityBytes, capacityBytes]

@[simp] theorem length_oldestBytes (queue : List QueuedRecord) : (oldestBytes queue).length = 9 := by
  cases queue <;> simp [oldestBytes]

@[simp] theorem length_queueBytes (s : State) : (queueBytes s).length = 20 := by
  simp [queueBytes]

@[simp] theorem length_firstBytes (f : Option FirstRecord) : (firstBytes f).length = 13 := by
  cases f <;> simp [firstBytes]

theorem length_countsBytes (f : Fmn) : (f.counts.toList.flatMap (leBytes 1)).length = 23 :=
  (length_flatMap_of_forall fun n _ => length_leBytes 1 n).trans (by simp)

@[simp] theorem length_errorBytes (f : Fmn) : (errorBytes f).length = 41 := by
  simp only [errorBytes, List.length_append, length_leBytes, length_countsBytes, length_firstBytes, List.length_singleton]

@[simp] theorem length_counterBytes (f : Fmn) : (counterBytes f).length = 40 :=
  (length_flatMap_of_forall (size := 5) fun j _ => by simp).trans (by simp)

@[simp] theorem length_axisEntryBytes (e : AxisEntry) : (axisEntryBytes e).length = 8 := by
  simp [axisEntryBytes]

/-- R7: a record of e axis entries takes 16 + 8·e bytes. -/
theorem length_recordBytes (drops : Nat) (q : QueuedRecord) :
    (recordBytes drops q).length = 16 + 8 * q.body.fields.length := by
  have fields : (q.body.fields.flatMap axisEntryBytes).length = q.body.fields.length * 8 :=
    length_flatMap_of_forall fun e _ => length_axisEntryBytes e
  simp only [recordBytes, List.length_append, length_leBytes, List.length_singleton, fields]
  omega

/-- R163: four records of at most ten axis entries each fit a frame. -/
theorem length_recordsPayload_le (drops : Nat) {qs : List QueuedRecord} (few : qs.length ≤ 4)
    (fit : ∀ q ∈ qs, q.body.fits) : (recordsPayload drops qs).length ≤ 512 := by
  have each (drops : Nat) (q : QueuedRecord) (hq : q ∈ qs) : (recordBytes drops q).length ≤ 96 := by
    have := fit q hq
    rw [length_recordBytes]
    unfold Record.fits at this
    omega
  have many (l : List QueuedRecord) (sub : l ⊆ qs) : (l.flatMap (recordBytes 0)).length ≤ 96 * l.length := by
    induction l with
    | nil => simp
    | cons q l ih =>
      have first := each 0 q (sub List.mem_cons_self)
      have rest := ih fun x hx => sub (List.mem_cons_of_mem _ hx)
      rw [List.flatMap_cons, List.length_append, List.length_cons]
      omega
  unfold recordsPayload
  cases qs with
  | nil => simp
  | cons q rest =>
    have first := each drops q List.mem_cons_self
    have others := many rest (List.subset_cons_self q rest)
    simp only [List.length_append, length_leBytes]
    rw [List.length_cons] at few
    omega

end Sys2Proof.Machine
end

section
/-! SUPPORT. The limits of the queues, the frames that are sent, and the unassigned part, kept by every command (R4 to R20,
R137, R160 to R162, R168, R174, R175). -/

namespace Sys2Proof.Machine

/-! ### The transmitter -/

/-- R15: the arbiter does nothing, starts the oldest forwarded frame, or starts the insert frame. -/
theorem arbitrate_cases {P : State → Prop} {s : State} (idle : P s)
    (forward : ∀ f rest n, s.cpt.forward = f :: rest → n ≤ 4 → P (setFairness n (sendForward f rest s)))
    (insert : P (setFairness 0 (sendInsert s))) : P (arbitrate s) := by
  unfold arbitrate
  split
  next f rest waits =>
    split
    · split
      next turn => exact forward f rest _ waits turn
      next => exact insert
    · exact forward f rest 0 waits (Nat.zero_le _)
  next =>
    split
    · exact insert
    · exact idle

/-- R14: the insert frame is the oldest response, or with none a RECORD frame. -/
theorem sendInsert_cases {P : State → Prop} {s : State}
    (response : ∀ r rest, s.mga.responses = r :: rest → P ((transmit (responseFrame s r)
      (s.modMga fun m => { m with responses := rest })).report .cpt .framesInserted))
    (records : s.mga.responses = [] → P (sendRecords s)) : P (sendInsert s) := by
  unfold sendInsert
  split
  next r rest waits => exact response r rest waits
  next none => exact records none

/-- R163, R168: what starting a RECORD frame does. -/
theorem sendRecords_state (s : State) : sendRecords s = { s with
    cpt := { s.cpt with transmitter := some (recordFrame s) }
    rqu := { handOver (handOverCount s.rqu) s.rqu with ageDue := (sendRecords s).rqu.ageDue }
    bus := { s.bus with reports := (sendRecords s).bus.reports } } := by
  unfold sendRecords State.reportTimes
  dsimp only
  split <;> rfl

theorem handOverCount_le (q : Rqu) : handOverCount q ≤ 4 := by
  unfold handOverCount
  dsimp only
  split <;> omega

/-! ### The limits -/

/-- A request served keeps the limits when its owner leaves MGA alone and keeps the others': the answer has its room. -/
theorem bounded_serve {mine : Request → Bool} {owner : Request → State → Answer} {s : State} (bounded : s.bounded)
    (mga : ∀ r, (owner r s).state.mga = s.mga)
    (owns : ∀ r, (owner r s).state.cpt.bounded ∧ (owner r s).state.rqu.bounded
      ∧ (owner r s).state.cap.entries.length ≤ 16) : (serve mine owner s).bounded := by
  refine serve_cases (P := State.bounded) bounded fun r executing _ => ?_
  obtain ⟨-, ⟨intake, room⟩, -, -⟩ := bounded
  obtain ⟨cpt, rqu, entries⟩ := owns r
  rw [executing] at room
  rw [Answer.place, placeAnswer_eq]
  refine ⟨cpt, ⟨?_, ?_⟩, rqu, entries⟩
  · rw [mga]; exact intake
  · simp only [mga, Option.isSome_none, Bool.false_eq_true, if_false]
    split
    · simp_all
      omega
    · simp_all

theorem ReceiveStep.bounded {s t : State} (act : ReceiveStep s t) (bounded : s.bounded) : t.bounded := by
  obtain ⟨⟨forward, fairness, bucket, decay⟩, ⟨intake, room⟩, rqu, entries⟩ := bounded
  cases act with
  | offer b copy =>
    unfold offerForward
    split
    next space =>
      refine ⟨⟨?_, fairness, bucket, decay⟩, ⟨intake, room⟩, rqu, entries⟩
      have below : s.cpt.forward.length < 8 := space
      simp
      omega
    next => exact ⟨⟨forward, fairness, bucket, decay⟩, ⟨intake, room⟩, rqu, entries⟩
  | bad =>
    rw [countBadFrame_state]
    exact ⟨⟨forward, fairness, Nat.min_le_left .., decay⟩, ⟨intake, room⟩, rqu, entries⟩
  | count =>
    unfold countGoodFrame decayLinkBucket
    dsimp only
    split
    next below => exact ⟨⟨forward, fairness, bucket, below⟩, ⟨intake, room⟩, rqu, entries⟩
    next =>
      have lower : s.cpt.bucket - 1 ≤ 255 := by omega
      exact ⟨⟨forward, fairness, lower, Nat.succ_pos 999⟩, ⟨intake, room⟩, rqu, entries⟩
  | intake b =>
    unfold joinIntake
    split
    next space =>
      refine ⟨⟨forward, fairness, bucket, decay⟩, ⟨?_, room⟩, rqu, entries⟩
      have below : s.mga.intake.length < 4 := space
      simp
      omega
    next => exact ⟨⟨forward, fairness, bucket, decay⟩, ⟨intake, room⟩, rqu, entries⟩
  | _ => exact ⟨⟨forward, fairness, bucket, decay⟩, ⟨intake, room⟩, rqu, entries⟩

theorem CaptureStep.bounded {s t : State} (act : CaptureStep s t) (bounded : s.bounded) : t.bounded := by
  obtain ⟨cpt, mga, rqu, entries⟩ := bounded
  cases act with
  | query =>
    rw [State.afterQuery, State.taintsTaken_state]
    exact ⟨cpt, mga, rqu, entries⟩
  | swept l shorter => exact ⟨cpt, mga, rqu, shorter.trans entries⟩
  | placed e room => exact ⟨cpt, mga, rqu, by simp; omega⟩
  | _ => exact ⟨cpt, mga, rqu, entries⟩

theorem AxisStep.bounded {s t : State} : AxisStep s t → s.bounded → t.bounded :=
  AxisStep.keeps (P := State.bounded) (fun _ _ => CaptureStep.bounded) (fun _ _ _ _ _ h => h) s t

/-- R163, R168: the records handed over leave the queue and the drain together. -/
theorem bounded_handOver {q : Rqu} (bounded : q.bounded) (n : Nat) (age : Bool) :
    Rqu.bounded { handOver n q with ageDue := age } := by
  obtain ⟨queue, drain, -, sequence⟩ := bounded
  refine ⟨?_, ?_, by simp [handOver], sequence⟩ <;> simp only [handOver, List.length_drop] <;> omega

/-- R161: a record queued with room keeps the limits of RQU. -/
theorem bounded_enqueue {q : Rqu} (bounded : q.bounded) (room : q.queue.length < 128) (r : Record) :
    (enqueue r q).bounded := by
  obtain ⟨-, drain, drops, -⟩ := bounded
  refine ⟨?_, ?_, drops, Nat.mod_lt _ (by decide)⟩ <;> simp only [enqueue, List.length_append, List.length_singleton] <;>
    omega

/-- R161, R162: RQU after it has taken a record. -/
theorem takeRecord_rqu (r : Record) (s : State) : (takeRecord r s).rqu =
    { (if s.rqu.queue.length < 128 then enqueue r s.rqu
        else if s.rqu.delivery.dropOldest = true ∧ s.rqu.queue ≠ [] then
          enqueue r (countDrop { s.rqu with queue := s.rqu.queue.drop 1 })
        else countDrop s.rqu) with ageDue := (takeRecord r s).rqu.ageDue } := by
  unfold takeRecord
  split
  next room =>
    have below : s.rqu.queue.length < 128 := room
    rw [if_pos below]
    unfold queueWithRoom
    dsimp only
    (repeat' split) <;> rfl
  next full =>
    have atLimit : ¬s.rqu.queue.length < 128 := full
    rw [if_neg atLimit]
    split
    next dropOldest queue => simp [replaceOldest, raiseOverflow, enqueue, countDrop, dropOldest, queue]
    next other =>
      have newest : ¬(s.rqu.delivery.dropOldest = true ∧ s.rqu.queue ≠ []) := by
        rintro ⟨dropOldest, some⟩
        obtain ⟨oldest, rest, queue⟩ := List.exists_cons_of_ne_nil some
        exact other oldest rest dropOldest queue
      rw [if_neg newest]
      rfl

theorem bounded_takeRecord (r : Record) {s : State} (bounded : s.rqu.bounded) : (takeRecord r s).rqu.bounded := by
  obtain ⟨queue, drain, drops, sequence⟩ := bounded
  have whole : Rqu.bounded s.rqu := ⟨queue, drain, drops, sequence⟩
  rw [takeRecord_rqu]
  have age {q : Rqu} {due : Bool} (h : q.bounded) : Rqu.bounded { q with ageDue := due } := h
  refine age ?_
  have counted : (countDrop s.rqu).bounded := ⟨queue, drain, Nat.min_le_left .., sequence⟩
  split
  next room => exact bounded_enqueue whole room r
  next full =>
    split
    next oldest =>
      refine ⟨?_, ?_, Nat.min_le_left .., Nat.mod_lt _ (by decide)⟩ <;>
        simp only [enqueue, countDrop, List.length_append, List.length_drop, List.length_singleton] <;> omega
    next => exact counted

theorem bounded_settleFairness {s : State} (bounded : s.bounded) : s.settleFairness.bounded := by
  obtain ⟨⟨forward, fairness, bucket, decay⟩, mga, rqu, entries⟩ := bounded
  unfold State.settleFairness
  split
  · exact ⟨⟨forward, fairness, bucket, decay⟩, mga, rqu, entries⟩
  · exact ⟨⟨forward, Nat.zero_le _, bucket, decay⟩, mga, rqu, entries⟩

theorem bounded_arbitrate {s : State} (bounded : s.bounded) : (arbitrate s).bounded := by
  obtain ⟨⟨forward, fairness, bucket, decay⟩, ⟨intake, room⟩, rqu, entries⟩ := bounded
  refine arbitrate_cases (P := State.bounded) ⟨⟨forward, fairness, bucket, decay⟩, ⟨intake, room⟩, rqu, entries⟩
    (fun f rest n waits turn => ?_) ?_
  · rw [waits, List.length_cons] at forward
    exact ⟨⟨by change rest.length ≤ 8; omega, turn, bucket, decay⟩, ⟨intake, room⟩, rqu, entries⟩
  · refine sendInsert_cases (P := fun u => (setFairness 0 u).bounded) (fun r rest waits => ?_) fun _ => ?_
    · rw [waits, List.length_cons] at room
      refine ⟨⟨forward, Nat.zero_le _, bucket, decay⟩, ⟨intake, ?_⟩, rqu, entries⟩
      change rest.length + (if s.mga.executing.isSome = true then 1 else 0) ≤ 4
      omega
    · have queue := bounded_handOver rqu (handOverCount s.rqu) (sendRecords s).rqu.ageDue
      rw [sendRecords_state]
      exact ⟨⟨forward, Nat.zero_le _, bucket, decay⟩, ⟨intake, room⟩, queue, entries⟩

/-- R175: while MGA begins a request the list has room for its answer. -/
theorem bounded_begin {s : State} (cpt : s.cpt.bounded) (rqu : s.rqu.bounded) (entries : s.cap.entries.length ≤ 16)
    (intake : s.mga.intake.length ≤ 4) (room : s.mga.responses.length < 4) (free : s.mga.executing = none)
    (r : Request) : (if r.broadcast then beginBroadcast r s else beginAddressed r s).bounded := by
  have handed (op : Option RequestOp) : (handOn r op s).bounded := by
    refine ⟨cpt, ⟨intake, ?_⟩, rqu, entries⟩
    change s.mga.responses.length + 1 ≤ 4
    omega
  have refused (status : Status) : (placeAnswer r status [] s).bounded := by
    rw [placeAnswer_eq]
    refine ⟨cpt, ⟨intake, ?_⟩, rqu, entries⟩
    simp only [Option.isSome_none, Bool.false_eq_true, if_false]
    split <;> simp <;> omega
  split
  · unfold beginBroadcast
    split
    · exact handed _
    · refine ⟨cpt, ⟨intake, ?_⟩, rqu, entries⟩
      change s.mga.responses.length + (if s.mga.executing.isSome = true then 1 else 0) ≤ 4
      rw [free]
      exact Nat.le_of_lt room
  · unfold beginAddressed
    split
    · exact handed _
    · split
      · exact refused _
      · exact handed _

theorem bounded_requestBegin {s : State} (bounded : s.bounded) {t : State} (h : exec .requestBegin s = .next t) :
    t.bounded := by
  cases h
  split
  · exact bounded
  next r rest waits =>
    split
    next may =>
      obtain ⟨cpt, ⟨intake, -⟩, rqu, entries⟩ := bounded
      simp only [mayBegin, Bool.and_eq_true, Option.isNone_iff_eq_none, Config.responseDepth] at may
      obtain ⟨⟨free, -⟩, room⟩ := may
      rw [waits, List.length_cons] at intake
      have shorter : rest.length ≤ 4 := by omega
      exact bounded_begin (s := State.report (State.modMga s fun m => { m with intake := rest }) .mga .managementRequests)
        cpt rqu entries shorter (of_decide_eq_true room) free r
    next => exact bounded

theorem bounded_fullReset (cause : ResetCause) (s : State) : (fullReset cause s).bounded :=
 ⟨⟨Nat.zero_le _, Nat.zero_le _, Nat.zero_le _, Nat.succ_pos 999⟩, ⟨Nat.zero_le _, Nat.zero_le _⟩,
    ⟨Nat.zero_le _, Nat.zero_le _, Nat.zero_le _, Nat.succ_pos 65535⟩, Nat.zero_le _⟩

theorem bounded_restartBlock {s : State} (bounded : s.bounded) (b : Block) : (restartBlock s b).bounded := by
  obtain ⟨⟨forward, fairness, bucket, decay⟩, mga, rqu, entries⟩ := bounded
  cases b with
  | cpt => exact ⟨⟨forward, Nat.zero_le _, Nat.zero_le _, Nat.succ_pos 999⟩, mga, rqu, entries⟩
  | cap => exact ⟨⟨forward, fairness, bucket, decay⟩, mga, rqu, Nat.zero_le _⟩
  | rqu =>
    exact ⟨⟨forward, fairness, bucket, decay⟩, mga,
      ⟨Nat.zero_le _, Nat.zero_le _, Nat.zero_le _, Nat.succ_pos 65535⟩, entries⟩
  | _ => exact ⟨⟨forward, fairness, bucket, decay⟩, mga, rqu, entries⟩

/-- R175, R186: the request that has been executed is answered in the room kept for it. -/
theorem bounded_answer {s : State} (bounded : s.bounded) {r : Request} (executing : s.mga.executing = some r)
    (status : Status) (data : List Byte) : (placeAnswer r status data s).bounded := by
  obtain ⟨cpt, ⟨intake, room⟩, rqu, entries⟩ := bounded
  rw [executing] at room
  rw [placeAnswer_eq]
  refine ⟨cpt, ⟨intake, ?_⟩, rqu, entries⟩
  simp only [Option.isSome_none, Bool.false_eq_true, if_false]
  split
  · simp_all
    omega
  · simp_all

theorem bounded_foldl_restartBlock (l : List Block) {s : State} (bounded : s.bounded) :
    (l.foldl restartBlock s).bounded := by
  induction l generalizing s with
  | nil => exact bounded
  | cons b l ih => exact ih (bounded_restartBlock bounded b)

theorem bounded_takeRestart {s : State} (bounded : s.bounded) {r : Request} (executing : s.mga.executing = some r)
    (block : Option Block) : (takeRestart r block s).bounded := by
  have taken := bounded_foldl_restartBlock (restartNow s.mga.restartLeft block) bounded
  have running : ((restartNow s.mga.restartLeft block).foldl restartBlock s).mga.executing = some r := by
    simpa using executing
  unfold takeRestart
  generalize (restartNow s.mga.restartLeft block).foldl restartBlock s = u at taken running ⊢
  have settled (l : List Block) : (u.modMga fun m => { m with restartLeft := l }).settleFairness.bounded :=
    bounded_settleFairness taken
  dsimp only
  split
  · refine bounded_answer ?_ (r := r) ?_ .done []
    · exact settled _
    · simpa using running
  · exact settled _

theorem bounded_checkChainDown {s : State} (bounded : s.bounded) : (checkChainDown s).bounded := by
  rw [checkChainDown_eq]
  split
  · exact bounded
  · exact bounded

theorem bounded_tickTimer {s : State} (bounded : s.bounded) : (tickTimer s).bounded := by
  unfold tickTimer
  split
  · exact bounded
  · exact bounded

theorem bounded_writeDelivery (r : Request) {s : State} (bounded : s.rqu.bounded) :
    (writeDelivery r s).state.rqu.bounded := by
  unfold writeDelivery
  split
  · exact bounded
  · obtain ⟨queue, drain, drops, sequence⟩ := bounded
    refine ⟨queue, ?_, drops, sequence⟩
    simp only [plain_state, State.refreshAge_rqu, State.modRqu_rqu, withDelivery]
    split <;> omega

theorem bounded_drainQueue (r : Request) {s : State} (bounded : s.rqu.bounded) :
    (drainQueue r s).state.rqu.bounded := by
  obtain ⟨queue, drain, drops, sequence⟩ := bounded
  unfold drainQueue
  dsimp only
  split
  · exact ⟨queue, drain, drops, sequence⟩
  · split
    · exact ⟨queue, drain, drops, sequence⟩
    · split
      · exact ⟨queue, drain, drops, sequence⟩
      · exact ⟨queue, Nat.min_le_right .., drops, sequence⟩

theorem bounded_flushQueue (r : Request) {s : State} (bounded : s.rqu.bounded) :
    (flushQueue r s).state.rqu.bounded := by
  obtain ⟨-, -, drops, sequence⟩ := bounded
  unfold flushQueue State.reportTimes
  dsimp only
  split <;> exact ⟨Nat.zero_le _, Nat.zero_le _, drops, sequence⟩

theorem bounded_captureNow (r : Request) {s : State} (bounded : s.bounded) : (captureNow r s).state.bounded := by
  unfold captureNow
  dsimp only
  split
  · exact bounded
  · exact bounded
  · split
    · exact bounded
    · split
      · exact bounded
      · exact (takeTrigger_captureWork _ _ _ s).keeps (P := State.bounded) (fun _ _ => CaptureStep.bounded) bounded

theorem bounded_cancelZero (r : Request) {s : State} (bounded : s.cap.entries.length ≤ 16) :
    (onAxis cancelZero r s).state.cap.entries.length ≤ 16 := by
  refine onAxis_keeps (P := fun u => u.cap.entries.length ≤ 16) r s bounded fun a => ?_
  unfold cancelZero
  split
  · simpa using bounded
  · exact bounded

theorem bounded_stopAxis (a : AxisId) (r : Request) {s : State} (bounded : s.bounded) :
    (stopAxis a r s).state.bounded :=
  (stopAxis_axisWork a r s).keeps (P := State.bounded) (fun _ _ => AxisStep.bounded) bounded

theorem exec_bounded {i : Instr} {s t : State} (bounded : s.bounded) (h : exec i s = .next t) : t.bounded := by
  have captured {u : State} (work : CaptureWork u t) (start : u.bounded) : t.bounded :=
    work.keeps (P := State.bounded) (fun _ _ => CaptureStep.bounded) start
  have received (b : List Byte) : (receive b s).bounded :=
    (receive_receiveWork b s).keeps (P := State.bounded) (fun _ _ => ReceiveStep.bounded) bounded
  obtain ⟨cpt, mga, rqu, entries⟩ := id bounded
  cases i
  case badFrame b | cycle b | assign b | sample b | marker b | environment b | manage b | forwardedFrame b =>
    cases h
    exact received b
  case edgeTrigger | referenceEvent | captureTimeout | compareFire =>
    obtain ⟨_, _, _, work⟩ := exec_captureEvent rfl h
    exact captured work bounded
  case sampleArrival =>
    obtain ⟨_, -, work⟩ := exec_sampleArrival h
    exact work.keeps (P := State.bounded) (fun _ _ => AxisStep.bounded) bounded
  case linkErrorDecay =>
    cases h
    obtain ⟨forward, fairness, bucket, -⟩ := cpt
    have lower : s.cpt.bucket - 1 ≤ 255 := by omega
    split
    · exact ⟨⟨forward, fairness, lower, Nat.succ_pos 999⟩, mga, rqu, entries⟩
    · exact bounded
  case chainDown =>
    cases h
    split
    · exact bounded_checkChainDown (bounded_tickTimer bounded)
    · exact bounded
  case always => cases h; exact bounded_checkChainDown (bounded_tickTimer bounded)
  case transmitStart =>
    cases h
    split
    · exact bounded
    · exact bounded_arbitrate bounded
  case requestBegin => exact bounded_requestBegin bounded h
  case axisStop =>
    cases h
    have stopped (r : Request) := onAxis_keeps (P := State.bounded) r s bounded fun a => bounded_stopAxis a r bounded
    exact bounded_serve bounded (by simp) fun r =>
      ⟨(stopped r).1, (stopped r).2.2.1, (stopped r).2.2.2⟩
  case zeroCancel =>
    cases h
    exact bounded_serve bounded (by simp) fun r => ⟨by simpa using cpt, by simpa using rqu, bounded_cancelZero r entries⟩
  case stopCapture =>
    cases h
    exact bounded_serve bounded (by simp) fun r => ⟨by simpa using cpt, by simpa using rqu, by simp⟩
  case manualCapture =>
    cases h
    exact bounded_serve bounded (by simp) fun r => ⟨(bounded_captureNow r bounded).1, (bounded_captureNow r bounded).2.2.1,
      (bounded_captureNow r bounded).2.2.2⟩
  case writeTableTiming =>
    cases h
    exact bounded_serve bounded (by simp) fun r =>
      ⟨by simpa [Cpt.bounded] using cpt, by simpa using rqu, by simpa using entries⟩
  case drain =>
    cases h
    exact bounded_serve bounded (by simp) fun r =>
      ⟨by simpa using cpt, bounded_drainQueue r rqu, by simpa using entries⟩
  case flushQueue =>
    cases h
    exact bounded_settleFairness (bounded_serve bounded (by simp) fun r =>
      ⟨by simpa using cpt, bounded_flushQueue r rqu, by simpa using entries⟩)
  case writeTableDelivery =>
    cases h
    exact bounded_settleFairness (bounded_serve bounded (by simp) fun r =>
      ⟨by simpa using cpt, bounded_writeDelivery r rqu, by simpa using entries⟩)
  case recordQueued =>
    cases h
    split
    · exact bounded
    · refine bounded_settleFairness ⟨by simpa using cpt, by simpa using mga,
        bounded_takeRecord _ rqu, by simpa using entries⟩
  case flushAge =>
    cases h
    split
    · exact bounded
    · exact bounded_settleFairness bounded
  case restart block =>
    cases h
    split
    next r executing =>
      split
      · exact bounded_takeRestart bounded executing block
      · exact bounded
    next => exact bounded
  case fullReset =>
    cases h
    split
    next r executing =>
      split
      · obtain ⟨intake, room⟩ := mga
        rw [executing] at room
        refine ⟨by simpa using cpt, ⟨by simpa using intake, ?_⟩, by simpa using rqu, by simpa using entries⟩
        unfold takeFullReset
        cases r.broadcast <;> simp_all
        omega
      · exact bounded
    next => exact bounded
  case powerOn | pin | supplyDip => cases h; exact bounded_fullReset ..
  case fullRequest =>
    cases h
    split
    · exact bounded_fullReset ..
    · exact bounded
  case axisChainLoss a =>
    cases h
    split
    · exact chainLoss_keeps (P := State.bounded) a (popLinkEvent a s) bounded
        ⟨by simpa using cpt, by simpa using mga, by simpa using rqu, by simpa using entries⟩
    · exact bounded
  case unknownRequest | identify | readTable | writeTableSource | writeTableAxis | writeTableNonlinear
      | writeTableComposite | writeTableEnvgroup | writeTableWindow | writeTableCapmap | writeTableCompare
      | writeTableRoute | writeTableCountsel | axisStart | accept | zeroAtReference | preset
      | calibrate | calibrateAbort | axisStatus | arm | queueStatus | readErrors | clearErrors | readCounters
      | clearCounters =>
    cases h
    exact bounded_serve bounded (by simp) fun r => ⟨by simpa using cpt, by simpa using rqu, by simpa using entries⟩
  all_goals
    cases h
    have same {u : State} (hcpt : u.cpt.forward = s.cpt.forward ∧ u.cpt.fairness = s.cpt.fairness
        ∧ u.cpt.bucket = s.cpt.bucket ∧ u.cpt.decay = s.cpt.decay) (hmga : u.mga = s.mga) (hrqu : u.rqu = s.rqu)
        (hcap : u.cap.entries = s.cap.entries) : u.bounded := by
      simp only [State.bounded, Cpt.bounded, hcpt, hmga, hrqu, hcap]
      exact bounded
    (repeat' split) <;> exact same (by simp) (by simp) (by simp) (by simp)

/-- Settles O3: every command keeps the limits. -/
theorem stepKeepsQueueLimits : Obligations.StepKeepsQueueLimits := by
  unfold Obligations.StepKeepsQueueLimits
  intro s t holds h
  exact step_keeps (P := State.bounded) (fun _ _ h => h) (fun _ _ _ => exec_bounded) holds h

end Sys2Proof.Machine
end

section
/-! SUPPORT. The frames that are sent, the unassigned part and the armed configuration, kept by every command (R4, R5, R11,
R20, R134, R143, R144, R151). -/

namespace Sys2Proof.Machine

/-! ### Good frames -/

/-- A state with these parts sends good frames when another does. -/
theorem framesGood_congr {s t : State} (good : s.framesGood) (forward : t.cpt.forward = s.cpt.forward)
    (transmitter : t.cpt.transmitter = s.cpt.transmitter) (responses : t.mga.responses = s.mga.responses)
    (queue : t.rqu.queue = s.rqu.queue) (records : t.bus.records = s.bus.records) : t.framesGood := by
  simp only [State.framesGood, forward, transmitter, responses, queue, records]
  exact good

/-- Answers placed keep good frames when the data fits. -/
theorem framesGood_placeAnswer {s : State} (good : s.framesGood) (r : Request) (status : Status) {data : List Byte}
    (fits : data.length ≤ 510) : (placeAnswer r status data s).framesGood := by
  obtain ⟨forward, transmitter, responses, queue, records⟩ := good
  refine ⟨by simpa using forward, by simpa using transmitter, fun x hx => ?_, by simpa using queue,
    by simpa using records⟩
  rw [placeAnswer_eq] at hx
  dsimp only at hx
  split at hx
  · exact responses x hx
  · obtain old | rfl := (List.mem_append.1 hx).imp_right List.mem_singleton.1
    · exact responses x old
    · exact fits

theorem framesGood_serve {mine : Request → Bool} {owner : Request → State → Answer} {s : State} (good : s.framesGood)
    (owns : ∀ r, (owner r s).state.framesGood) (fits : ∀ r, (owner r s).data.length ≤ 510) :
    (serve mine owner s).framesGood :=
  serve_cases (P := State.framesGood) good fun r _ _ => framesGood_placeAnswer (owns r) r _ (fits r)

theorem ReceiveStep.framesGood {s t : State} (act : ReceiveStep s t) (good : s.framesGood) : t.framesGood := by
  cases act with
  | offer b copy goodFrame =>
    obtain ⟨forward, rest⟩ := good
    unfold offerForward
    split
    · refine ⟨fun f hf => ?_, rest⟩
      obtain old | rfl := (List.mem_append.1 hf).imp_right List.mem_singleton.1
      · exact forward f old
      · exact goodFrame
    · exact ⟨forward, rest⟩
  | bad => rw [countBadFrame_state]; exact good
  | count => rw [countGoodFrame_state]; exact good
  | intake => rw [joinIntake_state]; exact good
  | _ => exact good

theorem CaptureStep.framesGood {s t : State} (act : CaptureStep s t) (good : s.framesGood) : t.framesGood := by
  cases act with
  | query =>
    rw [State.afterQuery, State.taintsTaken_state]
    exact good
  | record r fits =>
    obtain ⟨forward, transmitter, responses, queue, records⟩ := good
    refine ⟨forward, transmitter, responses, queue, fun x hx => ?_⟩
    obtain old | rfl := (List.mem_append.1 hx).imp_right List.mem_singleton.1
    · exact records x old
    · exact fits
  | _ => exact good

theorem AxisStep.framesGood {s t : State} : AxisStep s t → s.framesGood → t.framesGood :=
  AxisStep.keeps (P := State.framesGood) (fun _ _ => CaptureStep.framesGood) (fun _ _ _ _ _ h => h) s t

/-- R6, R7: the frames that the part fills are good. -/
theorem goodFrame_responseFrame (s : State) {r : Response} (fits : r.data.length ≤ 510) :
    goodFrame (responseFrame s r) = true :=
  goodFrame_buildFrame (by simp; omega)

theorem goodFrame_recordFrame {s : State} (fit : ∀ q ∈ s.rqu.queue, q.body.fits) :
    goodFrame (recordFrame s) = true := by
  refine goodFrame_buildFrame (length_recordsPayload_le _ ?_ fun q hq => fit q (List.mem_of_mem_take hq))
  have := handOverCount_le s.rqu
  rw [List.length_take]
  omega

theorem framesGood_arbitrate {s : State} (good : s.framesGood) : (arbitrate s).framesGood := by
  obtain ⟨forward, transmitter, responses, queue, records⟩ := good
  refine arbitrate_cases (P := State.framesGood) ⟨forward, transmitter, responses, queue, records⟩
    (fun f rest n waits _ => ?_) ?_
  · rw [waits] at forward
    refine ⟨fun g hg => forward g (List.mem_cons_of_mem _ hg), fun b hb => ?_, responses, queue, records⟩
    cases hb
    exact forward f List.mem_cons_self
  · refine sendInsert_cases (P := fun u => (setFairness 0 u).framesGood) (fun r rest waits => ?_) fun _ => ?_
    · rw [waits] at responses
      refine ⟨forward, fun b hb => ?_, fun x hx => responses x (List.mem_cons_of_mem _ hx), queue, records⟩
      cases hb
      exact goodFrame_responseFrame _ (responses r List.mem_cons_self)
    · rw [sendRecords_state]
      refine ⟨forward, fun b hb => ?_, responses, fun q hq => queue q (List.mem_of_mem_drop hq), records⟩
      cases hb
      exact goodFrame_recordFrame queue

theorem framesGood_takeRecord {r : Record} (fits : r.fits) {s : State} (good : s.framesGood) :
    (takeRecord r s).framesGood := by
  obtain ⟨forward, transmitter, responses, queue, records⟩ := good
  refine ⟨by simpa using forward, by simpa using transmitter, by simpa using responses, fun q hq => ?_,
    by simpa using records⟩
  rw [takeRecord_rqu] at hq
  dsimp only at hq
  split at hq
  · obtain old | rfl := (List.mem_append.1 hq).imp_right List.mem_singleton.1
    · exact queue q old
    · exact fits
  · split at hq
    · obtain old | rfl := (List.mem_append.1 hq).imp_right List.mem_singleton.1
      · exact queue q (List.mem_of_mem_drop old)
      · exact fits
    · exact queue q hq

theorem framesGood_settleFairness {s : State} (good : s.framesGood) : s.settleFairness.framesGood := by
  unfold State.settleFairness
  split
  · exact good
  · exact good

theorem framesGood_restartBlock {s : State} (good : s.framesGood) (b : Block) : (restartBlock s b).framesGood := by
  obtain ⟨forward, transmitter, responses, queue, records⟩ := good
  cases b with
  | rqu => exact ⟨forward, transmitter, responses, nofun, nofun⟩
  | _ => exact ⟨forward, transmitter, responses, queue, records⟩

theorem framesGood_foldl_restartBlock (l : List Block) {s : State} (good : s.framesGood) :
    (l.foldl restartBlock s).framesGood := by
  induction l generalizing s with
  | nil => exact good
  | cons b l ih => exact ih (framesGood_restartBlock good b)

theorem framesGood_fullReset (cause : ResetCause) {s : State} (good : s.framesGood) :
    (fullReset cause s).framesGood :=
  ⟨nofun, good.2.1, nofun, nofun, nofun⟩

theorem framesGood_captureNow (r : Request) {s : State} (good : s.framesGood) : (captureNow r s).state.framesGood := by
  unfold captureNow
  dsimp only
  split
  · exact good
  · exact good
  · split
    · exact good
    · split
      · exact good
      · exact (takeTrigger_captureWork _ _ _ s).keeps (P := State.framesGood) (fun _ _ => CaptureStep.framesGood) good

theorem framesGood_flushQueue (r : Request) {s : State} (good : s.framesGood) : (flushQueue r s).state.framesGood := by
  obtain ⟨forward, transmitter, responses, -, records⟩ := good
  unfold flushQueue State.reportTimes
  dsimp only
  split <;> exact ⟨forward, transmitter, responses, nofun, records⟩

/-- The owners that answer with a status alone. -/
theorem data_onAxis {act : AxisId → Request → State → Answer} (r : Request) (s : State)
    (acts : ∀ a, (act a r s).data.length ≤ 510) : (onAxis act r s).data.length ≤ 510 := by
  unfold onAxis
  split
  · exact acts _
  · exact Nat.zero_le _

theorem length_data_answerRead (r : Request) (s : State) : (answerRead r s).data.length ≤ 510 := by
  unfold answerRead
  dsimp only
  split
  next inRange => exact length_readRange_le s inRange
  next => exact Nat.zero_le _

/-- Answers of a status alone carry no data. -/
@[simp] theorem data_owners (r : Request) (s : State) :
    (writeSource r s).data = [] ∧ (writeAxis r s).data = [] ∧ (writeNonlinear r s).data = []
      ∧ (writeComposite r s).data = [] ∧ (writeEnvgroup r s).data = [] ∧ (writeWindow r s).data = []
      ∧ (writeCapmap r s).data = [] ∧ (writeCompare r s).data = [] ∧ (writeRoute r s).data = []
      ∧ (writeCountsel r s).data = [] ∧ (writeDelivery r s).data = [] ∧ (writeTiming r s).data = []
      ∧ (armCapture r s).data = [] ∧ (captureNow r s).data = [] ∧ (clearErrors r s).data = [] := by
  refine ⟨?_, ?_, ?_, ?_, ?_, ?_, ?_, ?_, ?_, ?_, ?_, ?_, ?_, ?_, ?_⟩
  · unfold writeSource; (repeat' split) <;> rfl
  · unfold writeAxis; (repeat' split) <;> rfl
  · unfold writeNonlinear; (repeat' split) <;> rfl
  · unfold writeComposite; (repeat' split) <;> rfl
  · unfold writeEnvgroup; (repeat' split) <;> rfl
  · unfold writeWindow writeHeader writeEntry; (repeat' split) <;> rfl
  · unfold writeCapmap; (repeat' split) <;> rfl
  · unfold writeCompare; (repeat' split) <;> rfl
  · unfold writeRoute; (repeat' split) <;> rfl
  · unfold writeCountsel; (repeat' split) <;> rfl
  · unfold writeDelivery; (repeat' split) <;> rfl
  · unfold writeTiming; (repeat' split) <;> rfl
  · unfold armCapture; (repeat' split) <;> rfl
  · unfold captureNow; dsimp only; (repeat' split) <;> rfl
  · unfold clearErrors; dsimp only; split <;> rfl

@[simp] theorem data_axisOwners (a : AxisId) (r : Request) (s : State) :
    (startAxis a r s).data = [] ∧ (stopAxis a r s).data = [] ∧ (acceptAxis a r s).data = []
      ∧ (armZero a r s).data = [] ∧ (cancelZero a r s).data = [] ∧ (presetAxis a r s).data = []
      ∧ (calibrateAxis a r s).data = [] ∧ (abortAxis a r s).data = [] := by
  refine ⟨?_, ?_, ?_, ?_, ?_, ?_, ?_, ?_⟩
  · unfold startAxis; dsimp only; split <;> rfl
  · unfold stopAxis; split <;> rfl
  · unfold acceptAxis; split <;> rfl
  · unfold armZero; dsimp only; (repeat' split) <;> rfl
  · unfold cancelZero; split <;> rfl
  · unfold presetAxis; dsimp only; (repeat' split) <;> rfl
  · unfold calibrateAxis; dsimp only; (repeat' split) <;> rfl
  · unfold abortAxis; split <;> rfl

theorem length_data_queueOwners (r : Request) (s : State) :
    (drainQueue r s).data.length ≤ 510 ∧ (flushQueue r s).data.length ≤ 510 := by
  refine ⟨?_, by simp [flushQueue]⟩
  unfold drainQueue
  dsimp only
  (repeat' split) <;> simp [plain]

@[simp] theorem drainQueue_queue (r : Request) (s : State) : (drainQueue r s).state.rqu.queue = s.rqu.queue := by
  unfold drainQueue
  dsimp only
  (repeat' split) <;> rfl

@[simp] theorem writeDelivery_queue (r : Request) (s : State) : (writeDelivery r s).state.rqu.queue = s.rqu.queue := by
  unfold writeDelivery
  split <;> rfl

theorem exec_framesGood {i : Instr} {s t : State} (good : s.framesGood) (h : exec i s = .next t) : t.framesGood := by
  have received (b : List Byte) : (receive b s).framesGood :=
    (receive_receiveWork b s).keeps (P := State.framesGood) (fun _ _ => ReceiveStep.framesGood) good
  cases i
  case badFrame b | cycle b | assign b | sample b | marker b | environment b | manage b | forwardedFrame b =>
    cases h
    exact received b
  case edgeTrigger | referenceEvent | captureTimeout | compareFire =>
    obtain ⟨_, _, _, work⟩ := exec_captureEvent rfl h
    exact work.keeps (P := State.framesGood) (fun _ _ => CaptureStep.framesGood) good
  case sampleArrival =>
    obtain ⟨_, -, work⟩ := exec_sampleArrival h
    exact work.keeps (P := State.framesGood) (fun _ _ => AxisStep.framesGood) good
  case transmitStart =>
    cases h
    split
    · exact good
    · exact framesGood_arbitrate good
  case frameSent => cases h; exact ⟨good.1, nofun, good.2.2⟩
  case requestBegin =>
    cases h
    split
    · exact good
    next r rest waits =>
      split
      · dsimp only
        split
        · refine framesGood_congr good (by simp) (by simp) ?_ (by simp) (by simp)
          unfold beginBroadcast handOn
          split <;> rfl
        · unfold beginAddressed
          split
          · exact good
          · split
            · refine framesGood_placeAnswer ?_ r _ (data := []) (Nat.zero_le _)
              exact good
            · exact good
      · exact good
  case axisStop =>
    cases h
    exact framesGood_serve good (fun r => onAxis_keeps (P := State.framesGood) r s good fun a =>
      (stopAxis_axisWork a r s).keeps (P := State.framesGood) (fun _ _ => AxisStep.framesGood) good)
      fun r => data_onAxis r s (by simp)
  case manualCapture => cases h; exact framesGood_serve good (fun r => framesGood_captureNow r good) (by simp)
  case flushQueue =>
    cases h
    exact framesGood_settleFairness (framesGood_serve good (fun r => framesGood_flushQueue r good)
      fun r => (length_data_queueOwners r s).2)
  case writeTableDelivery =>
    cases h
    exact framesGood_settleFairness (framesGood_serve good
      (fun r => framesGood_congr good (by simp) (by simp) (by simp) (by simp) (by simp)) (by simp))
  case drain =>
    cases h
    exact framesGood_serve good (fun r => framesGood_congr good (by simp) (by simp) (by simp) (by simp) (by simp))
      fun r => (length_data_queueOwners r s).1
  case readTable =>
    cases h
    exact framesGood_serve good (fun r => framesGood_congr good (by simp) (by simp) (by simp) (by simp) (by simp))
      fun r => length_data_answerRead r s
  case axisStart | accept | zeroAtReference | zeroCancel | preset | calibrate | calibrateAbort | axisStatus =>
    cases h
    exact framesGood_serve good (fun r => framesGood_congr good (by simp) (by simp) (by simp) (by simp) (by simp))
      fun r => data_onAxis r s fun a => by simp [reportAxis]
  case recordQueued =>
    cases h
    split
    · exact good
    next r rest waits =>
      obtain ⟨forward, transmitter, responses, queue, records⟩ := good
      rw [waits] at records
      exact framesGood_settleFairness (framesGood_takeRecord (s := State.modBus _ _) (records r List.mem_cons_self)
        ⟨forward, transmitter, responses, queue, fun x hx => records x (List.mem_cons_of_mem _ hx)⟩)
  case flushAge =>
    cases h
    split
    · exact good
    · exact framesGood_settleFairness good
  case restart block =>
    exact execRestart_keeps (P := State.framesGood) block s t good (fun l => framesGood_foldl_restartBlock l good)
      (fun _ _ h => h) (fun _ => framesGood_settleFairness)
      (fun r u h => by
        refine framesGood_placeAnswer ?_ r .done (data := []) (Nat.zero_le _)
        exact h) h
  case fullReset =>
    cases h
    split
    next r executing =>
      split
      · obtain ⟨forward, transmitter, responses, queue, records⟩ := good
        unfold takeFullReset
        refine ⟨forward, transmitter, fun x hx => ?_, queue, records⟩
        cases addressed : r.broadcast <;> simp only [addressed, State.modMga_mga, Bool.false_eq_true, if_false, if_true] at hx
        · obtain old | rfl := (List.mem_append.1 hx).imp_right List.mem_singleton.1
          · exact responses x old
          · exact Nat.zero_le _
        · exact responses x hx
      · exact good
    next => exact good
  case powerOn | pin | supplyDip => cases h; exact framesGood_fullReset _ good
  case fullRequest =>
    cases h
    split
    · exact framesGood_fullReset _ good
    · exact good
  case axisChainLoss a =>
    cases h
    split
    · exact chainLoss_keeps (P := State.framesGood) a (popLinkEvent a s) good
        (framesGood_congr good (by simp) (by simp) (by simp) (by simp) (by simp))
    · exact good
  case unknownRequest | identify | writeTableSource | writeTableAxis | writeTableNonlinear | writeTableComposite
      | writeTableEnvgroup | writeTableWindow | writeTableCapmap | writeTableCompare | writeTableRoute
      | writeTableCountsel | writeTableTiming | arm | stopCapture | queueStatus | readErrors | clearErrors
      | readCounters | clearCounters =>
    cases h
    exact framesGood_serve good (fun r => framesGood_congr good (by simp) (by simp) (by simp) (by simp) (by simp))
      fun r => by simp [plain, stopCapture, clearCounters]
  all_goals
    cases h
    repeat' split
    all_goals first
      | exact good
      | exact framesGood_congr good (by simp) (by simp) (by simp) (by simp) (by simp)

/-- Settles O6: every command keeps the frames that wait and the frame being sent good. -/
theorem stepSendsGoodFramesOnly : Obligations.StepSendsGoodFramesOnly := by
  unfold Obligations.StepSendsGoodFramesOnly
  intro s t holds h
  exact step_keeps (P := State.framesGood) (fun _ _ h => h) (fun _ _ _ => exec_framesGood) holds h

end Sys2Proof.Machine
end

section
/-! SUPPORT. The unassigned part, and the armed configuration and the pending list, as every command keeps them (R11, R20,
R134, R143, R144, R151). -/

namespace Sys2Proof.Machine

/-! ### The unassigned part -/

theorem unassignedIdle_congr {s t : State} (idle : s.unassignedIdle) (station : t.cpt.station = s.cpt.station)
    (timer : t.cpt.timer = s.cpt.timer) (established : t.cpt.established = s.cpt.established)
    (down : t.cpt.down = s.cpt.down) (mga : t.mga = s.mga) : t.unassignedIdle := by
  simp only [State.unassignedIdle, station, timer, established, down, mga]
  exact idle

theorem ReceiveStep.unassignedIdle {s t : State} (act : ReceiveStep s t) (idle : s.unassignedIdle) :
    t.unassignedIdle := by
  cases act with
  | offer => rw [offerForward_state]; exact idle
  | bad => rw [countBadFrame_state]; exact idle
  | count => rw [countGoodFrame_state]; exact idle
  | advance time assigned => exact fun unassigned => absurd unassigned assigned
  | number station controller positive => exact fun unassigned => absurd unassigned positive
  | intake b assigned =>
    rw [joinIntake_state]
    exact fun unassigned => absurd unassigned assigned
  | _ => exact idle

/-- With no response waiting the transmitter starts no response. -/
theorem arbitrate_responses {s : State} (none : s.mga.responses = []) : (arbitrate s).mga.responses = [] := by
  refine arbitrate_cases (P := fun u => u.mga.responses = []) none (fun f rest n _ _ => none) ?_
  refine sendInsert_cases (P := fun u => (setFairness 0 u).mga.responses = []) (fun r rest waits => ?_) fun _ => ?_
  · rw [none] at waits
    cases waits
  · rw [sendRecords_state]
    exact none

/-- No microsecond passes for an unassigned part. -/
theorem checkChainDown_unassigned {s : State} (unassigned : s.cpt.station = 0) :
    checkChainDown s = s ∧ tickTimer s = s := by
  simp [checkChainDown, tickTimer, assigned, unassigned]

theorem serve_none {mine : Request → Bool} {owner : Request → State → Answer} {s : State}
    (none : s.mga.executing = none) : serve mine owner s = s :=
  serve_other (by simp [none])

/-- A command of an unassigned part leaves it idle: no request is there to be served. -/
theorem exec_unassigned {i : Instr} {s t : State} (idle : s.unassignedIdle) (unassigned : s.cpt.station = 0)
    (h : exec i s = .next t) : t.unassignedIdle := by
  have received (b : List Byte) : (receive b s).unassignedIdle :=
    (receive_receiveWork b s).keeps (P := State.unassignedIdle) (fun _ _ => ReceiveStep.unassignedIdle) idle
  obtain ⟨timer, established, down, intake, executing, responses⟩ := id idle unassigned
  cases i
  case badFrame b | cycle b | assign b | sample b | marker b | environment b | manage b | forwardedFrame b =>
    cases h
    exact received b
  case chainDown =>
    cases h
    rw [(checkChainDown_unassigned (s := tickTimer s) (by simpa using unassigned)).1,
      (checkChainDown_unassigned unassigned).2, ite_self]
    exact idle
  case always =>
    cases h
    rw [(checkChainDown_unassigned (by simpa using unassigned)).1,
      (checkChainDown_unassigned (by simpa using unassigned)).2]
    exact idle
  case transmitStart =>
    cases h
    split
    · exact idle
    · intro _
      exact ⟨by simpa using timer, by simpa using established, by simpa using down, by simpa using intake,
        by simpa using executing, arbitrate_responses responses⟩
  case requestBegin =>
    cases h
    simp only [intake]
    exact idle
  case fullReset | restart =>
    cases h
    simp only [executing]
    exact idle
  case powerOn | pin | supplyDip => cases h; exact fun _ => ⟨rfl, rfl, rfl, rfl, rfl, rfl⟩
  case fullRequest =>
    cases h
    split
    · exact fun _ => ⟨rfl, rfl, rfl, rfl, rfl, rfl⟩
    · exact idle
  case flushQueue | writeTableDelivery =>
    cases h
    rw [serve_none executing]
    refine unassignedIdle_congr idle ?_ ?_ ?_ ?_ (by simp) <;> unfold State.settleFairness <;> split <;> rfl
  case axisChainLoss a =>
    cases h
    split
    · exact chainLoss_keeps (P := State.unassignedIdle) a (popLinkEvent a s) idle
        (unassignedIdle_congr idle (by simp) (by simp) (by simp) (by simp) (by simp))
    · exact idle
  case recordQueued | flushAge =>
    cases h
    split
    · exact idle
    · refine unassignedIdle_congr idle ?_ ?_ ?_ ?_ (by simp) <;> unfold State.settleFairness <;> split <;> simp
  case unknownRequest | identify | readTable | writeTableSource | writeTableAxis | writeTableNonlinear
      | writeTableComposite | writeTableEnvgroup | writeTableWindow | writeTableCapmap | writeTableCompare
      | writeTableRoute | writeTableCountsel | writeTableTiming | axisStart | axisStop | accept | zeroAtReference
      | zeroCancel | preset | calibrate | calibrateAbort | axisStatus | arm | stopCapture | manualCapture | drain
      | queueStatus | readErrors | clearErrors | readCounters | clearCounters =>
    cases h
    rw [serve_none executing]
    exact idle
  all_goals
    cases h
    repeat' split
    all_goals first
      | exact idle
      | exact unassignedIdle_congr idle (by simp) (by simp) (by simp) (by simp) (by simp)

theorem settleFairness_station (s : State) : s.settleFairness.cpt.station = s.cpt.station := by
  unfold State.settleFairness
  split <;> rfl

/-- An assigned part stays assigned but for a full reset, which leaves the part idle. -/
theorem exec_assigned {i : Instr} {s t : State} (assigned : s.cpt.station ≠ 0) (h : exec i s = .next t) :
    t.unassignedIdle := by
  have stays {u : State} (station : u.cpt.station = s.cpt.station) : u.unassignedIdle :=
    fun unassigned => absurd (station ▸ unassigned) assigned
  have received (b : List Byte) : (receive b s).unassignedIdle :=
    (receive_receiveWork b s).keeps (P := State.unassignedIdle) (fun _ _ => ReceiveStep.unassignedIdle) (stays rfl)
  cases i
  case badFrame b | cycle b | assign b | sample b | marker b | environment b | manage b | forwardedFrame b =>
    cases h
    exact received b
  case powerOn | pin | supplyDip => cases h; exact fun _ => ⟨rfl, rfl, rfl, rfl, rfl, rfl⟩
  case fullRequest =>
    cases h
    split
    · exact fun _ => ⟨rfl, rfl, rfl, rfl, rfl, rfl⟩
    · exact stays rfl
  case restart block =>
    refine stays (execRestart_keeps (P := fun u => u.cpt.station = s.cpt.station) block s t rfl (by simp) (by simp)
      (fun u same => ?_) (by simp [endRestart]) h)
    rw [settleFairness_station]
    exact same
  case axisChainLoss a =>
    cases h
    split
    · exact chainLoss_keeps (P := State.unassignedIdle) a (popLinkEvent a s) (stays (by simp)) (stays (by simp))
    · exact stays rfl
  case writeTableTiming =>
    cases h
    exact stays (serve_keeps (fun u => u.cpt.station) (by simp) (by simp))
  case linkErrorDecay =>
    cases h
    split <;> exact stays rfl
  all_goals
    cases h
    repeat' split
    all_goals exact stays (by simp [settleFairness_station])

/-- Settles O10: every command leaves an unassigned part idle. -/
theorem stepKeepsUnassignedPartIdle : Obligations.StepKeepsUnassignedPartIdle := by
  unfold Obligations.StepKeepsUnassignedPartIdle
  intro s t holds h
  refine step_keeps (P := State.unassignedIdle) (fun _ _ h => h) (fun i u v idle h => ?_) holds h
  by_cases unassigned : u.cpt.station = 0
  · exact exec_unassigned idle unassigned h
  · exact exec_assigned unassigned h

end Sys2Proof.Machine
end

section
/-! SUPPORT. The armed configuration and the pending list, as every command keeps them (R134, R143, R144, R151). -/

namespace Sys2Proof.Machine

/-! ### The armed configuration -/

/-- A state that is ARMED only where another is, with its configuration, is valid when the other is. -/
theorem armedValid_of_armed {s t : State} (valid : s.armedValid)
    (same : t.cap.state = .armed → s.cap.state = .armed ∧ t.cap.header = s.cap.header
      ∧ t.cap.windows = s.cap.windows ∧ t.cap.map = s.cap.map ∧ t.scu.composites = s.scu.composites) :
    t.armedValid := by
  intro armed
  obtain ⟨wasArmed, header, windows, map, composites⟩ := same armed
  obtain ⟨ordered, axis, masks⟩ := valid wasArmed
  have usable (mask : BitVec 10) : maskUsable t.scu mask = maskUsable s.scu mask := by
    simp only [maskUsable, composites]
  refine ⟨?_, ?_, fun i => ?_⟩
  · rw [windowsOrdered, validWindows, header, windows]
    exact ordered
  · rw [windowAxisUsable, composites, header]
    exact axis
  · rw [usable, map]
    exact masks i

theorem armedValid_congr {s t : State} (valid : s.armedValid) (state : t.cap.state = s.cap.state)
    (header : t.cap.header = s.cap.header) (windows : t.cap.windows = s.cap.windows) (map : t.cap.map = s.cap.map)
    (scu : t.scu.composites = s.scu.composites) : t.armedValid :=
  armedValid_of_armed valid fun armed => ⟨state ▸ armed, header, windows, map, scu⟩

theorem armedValid_disarmed {t : State} (disarmed : t.cap.state ≠ .armed) : t.armedValid :=
  fun armed => absurd armed disarmed

theorem armedValid_serve {mine : Request → Bool} {owner : Request → State → Answer} {s : State} (valid : s.armedValid)
    (owns : ∀ r, (owner r s).state.armedValid) : (serve mine owner s).armedValid :=
  serve_cases (P := State.armedValid) valid fun r _ _ =>
    armedValid_congr (owns r) (by simp [Answer.place]) (by simp [Answer.place]) (by simp [Answer.place])
      (by simp [Answer.place]) (by simp [Answer.place])

theorem CaptureStep.armedValid {s t : State} (act : CaptureStep s t) (valid : s.armedValid) : t.armedValid := by
  rw [act.state]
  exact valid

theorem AxisStep.armedValid {s t : State} : AxisStep s t → s.armedValid → t.armedValid :=
  AxisStep.keeps (P := State.armedValid) (fun _ _ => CaptureStep.armedValid) (fun _ _ _ _ _ h => h) s t

/-- R134: ARM arms only a configuration that passes its tests. -/
theorem armedValid_armCapture (r : Request) {s : State} (valid : s.armedValid) :
    (armCapture r s).state.armedValid := by
  unfold armCapture
  split
  · exact valid
  · split
    next done =>
      intro _
      rw [armStatus_eq] at done
      split at done
      next masks =>
        split at done
        next axis =>
          split at done
          next ordered => exact ⟨ordered, axis, masks⟩
          next => cases done
        next => cases done
      next => cases done
    next => exact valid

/-- R94, R129, R150: writes of the armed configuration are refused. -/
theorem armedValid_writeComposite (r : Request) {s : State} (valid : s.armedValid) :
    (writeComposite r s).state.armedValid := by
  unfold writeComposite
  split
  · exact valid
  · split
    · exact valid
    next disarmed =>
      split
      · exact valid
      · exact armedValid_disarmed disarmed

theorem armedValid_writeWindow (r : Request) {s : State} (valid : s.armedValid) :
    (writeWindow r s).state.armedValid := by
  unfold writeWindow writeHeader writeEntry
  split
  · split
    · exact valid
    · split
      · exact valid
      next disarmed => exact armedValid_disarmed disarmed
  · split
    · exact valid
    · split
      · exact valid
      next disarmed => exact armedValid_disarmed disarmed

theorem armedValid_writeCapmap (r : Request) {s : State} (valid : s.armedValid) :
    (writeCapmap r s).state.armedValid := by
  unfold writeCapmap
  split
  · exact valid
  · split
    · exact valid
    next disarmed => exact armedValid_disarmed disarmed

@[simp] theorem writeCompare_config (r : Request) (s : State) :
    (writeCompare r s).state.cap.state = s.cap.state ∧ (writeCompare r s).state.cap.header = s.cap.header
      ∧ (writeCompare r s).state.cap.windows = s.cap.windows ∧ (writeCompare r s).state.cap.map = s.cap.map := by
  unfold writeCompare
  split <;> simp

@[simp] theorem writeEnvgroup_composites (r : Request) (s : State) :
    (writeEnvgroup r s).state.scu.composites = s.scu.composites := by
  unfold writeEnvgroup
  split <;> simp

@[simp] theorem takeEnvValue_composites (m : EnvMsg) (s : State) :
    (takeEnvValue m s).scu.composites = s.scu.composites := by
  unfold takeEnvValue
  dsimp only
  split <;> split <;> simp

@[simp] theorem checkStale_composites (time : Time) (s : State) (g : GroupId) :
    (checkStale time s g).scu.composites = s.scu.composites := by
  unfold checkStale
  dsimp only
  split <;> simp

theorem armedValid_restartBlock {s : State} (valid : s.armedValid) (b : Block) : (restartBlock s b).armedValid := by
  cases b with
  | cap => exact armedValid_disarmed nofun
  | _ => exact valid

theorem armedValid_foldl_restartBlock (l : List Block) {s : State} (valid : s.armedValid) :
    (l.foldl restartBlock s).armedValid := by
  induction l generalizing s with
  | nil => exact valid
  | cons b l ih => exact ih (armedValid_restartBlock valid b)

theorem exec_armedValid {i : Instr} {s t : State} (valid : s.armedValid) (h : exec i s = .next t) : t.armedValid := by
  cases i
  case edgeTrigger | referenceEvent | captureTimeout | compareFire =>
    obtain ⟨_, _, _, work⟩ := exec_captureEvent rfl h
    exact work.keeps (P := State.armedValid) (fun _ _ => CaptureStep.armedValid) valid
  case arm => cases h; exact armedValid_serve valid fun r => armedValid_armCapture r valid
  case stopCapture => cases h; exact armedValid_serve valid fun r => armedValid_disarmed (by simp)
  case writeTableComposite => cases h; exact armedValid_serve valid fun r => armedValid_writeComposite r valid
  case writeTableWindow => cases h; exact armedValid_serve valid fun r => armedValid_writeWindow r valid
  case writeTableCapmap => cases h; exact armedValid_serve valid fun r => armedValid_writeCapmap r valid
  case halt =>
    cases h
    split
    · exact valid
    · refine armedValid_of_armed valid fun armed => ?_
      simp only [State.modCap_cap, State.modBus_cap] at armed
      cases state : s.cap.state <;> simp [state, haltCapture] at armed
  case powerOn | pin | supplyDip => cases h; exact armedValid_disarmed nofun
  case fullRequest =>
    cases h
    split
    · exact armedValid_disarmed nofun
    · exact valid
  case restart block =>
    exact execRestart_keeps (P := State.armedValid) block s t valid (fun l => armedValid_foldl_restartBlock l valid)
      (fun _ _ h => h) (fun u h => armedValid_congr h (by simp) (by simp) (by simp) (by simp) (by simp))
      (fun r u h => armedValid_congr h (by simp [endRestart]) (by simp [endRestart]) (by simp [endRestart])
        (by simp [endRestart]) (by simp [endRestart])) h
  case axisChainLoss a =>
    cases h
    split
    · exact chainLoss_keeps (P := State.armedValid) a (popLinkEvent a s) valid
        (armedValid_congr valid (by simp) (by simp) (by simp) (by simp) (by simp))
    · exact valid
  case flushQueue | writeTableDelivery =>
    cases h
    have settled {u : State} (valid : u.armedValid) : u.settleFairness.armedValid :=
      armedValid_congr valid (by simp) (by simp) (by simp) (by simp) (by simp)
    exact settled (armedValid_serve valid fun r =>
      armedValid_congr valid (by simp) (by simp) (by simp) (by simp) (by simp))
  case unknownRequest | identify | readTable | writeTableSource | writeTableAxis | writeTableNonlinear
      | writeTableEnvgroup | writeTableCompare | writeTableRoute | writeTableCountsel | writeTableTiming | axisStart
      | axisStop | accept | zeroAtReference | zeroCancel | preset | calibrate | calibrateAbort | axisStatus
      | manualCapture | drain | queueStatus | readErrors | clearErrors | readCounters | clearCounters =>
    cases h
    exact armedValid_serve valid fun r => armedValid_congr valid (by simp) (by simp) (by simp) (by simp) (by simp)
  all_goals
    cases h
    repeat' split
    all_goals exact armedValid_congr valid (by simp) (by simp) (by simp) (by simp) (by simp)

/-! ### The pending list -/

theorem entriesUnresolved_congr {s t : State} (unresolved : s.entriesUnresolved)
    (same : t.cap.entries = s.cap.entries) : t.entriesUnresolved := by
  rw [State.entriesUnresolved, same]
  exact unresolved

theorem entriesUnresolved_serve {mine : Request → Bool} {owner : Request → State → Answer} {s : State}
    (unresolved : s.entriesUnresolved) (owns : ∀ r, (owner r s).state.entriesUnresolved) :
    (serve mine owner s).entriesUnresolved :=
  serve_cases (P := State.entriesUnresolved) unresolved fun r _ _ =>
    entriesUnresolved_congr (owns r) (by simp [Answer.place])

theorem CaptureStep.entriesUnresolved {s t : State} (act : CaptureStep s t) (unresolved : s.entriesUnresolved) :
    t.entriesUnresolved := by
  cases act with
  | query =>
    rw [State.afterQuery, State.taintsTaken_state]
    exact unresolved
  | swept l shorter waiting => exact waiting unresolved
  | placed e room waiting =>
    intro d hd
    obtain old | rfl := (List.mem_append.1 hd).imp_right List.mem_singleton.1
    · exact unresolved d old
    · exact waiting
  | _ => exact unresolved

theorem AxisStep.entriesUnresolved {s t : State} : AxisStep s t → s.entriesUnresolved → t.entriesUnresolved :=
  AxisStep.keeps (P := State.entriesUnresolved) (fun _ _ => CaptureStep.entriesUnresolved) (fun _ _ _ _ _ h => h) s t

theorem Entry.unresolved.unmark {e : Entry} (h : e.unresolved) (a : AxisId) : (Machine.unmark a e).unresolved := by
  unfold Machine.unmark
  split <;> exact h

theorem entriesUnresolved_cancelZero (a : AxisId) (r : Request) {s : State} (unresolved : s.entriesUnresolved) :
    (cancelZero a r s).state.entriesUnresolved := by
  unfold cancelZero
  split
  · intro d hd
    obtain ⟨e, mem, rfl⟩ := List.mem_map.1 hd
    exact (unresolved e mem).unmark a
  · exact unresolved

theorem entriesUnresolved_captureNow (r : Request) {s : State} (unresolved : s.entriesUnresolved) :
    (captureNow r s).state.entriesUnresolved := by
  unfold captureNow
  dsimp only
  split
  · exact unresolved
  · exact unresolved
  · split
    · exact unresolved
    · split
      · exact unresolved
      · exact (takeTrigger_captureWork _ _ _ s).keeps (P := State.entriesUnresolved)
          (fun _ _ => CaptureStep.entriesUnresolved) unresolved

theorem entriesUnresolved_foldl_restartBlock (l : List Block) {s : State} (unresolved : s.entriesUnresolved) :
    (l.foldl restartBlock s).entriesUnresolved := by
  induction l generalizing s with
  | nil => exact unresolved
  | cons b l ih =>
    refine ih ?_
    cases b with
    | cap => exact nofun
    | _ => exact unresolved

theorem exec_entriesUnresolved {i : Instr} {s t : State} (unresolved : s.entriesUnresolved) (h : exec i s = .next t) :
    t.entriesUnresolved := by
  cases i
  case edgeTrigger | referenceEvent | captureTimeout | compareFire =>
    obtain ⟨_, _, _, work⟩ := exec_captureEvent rfl h
    exact work.keeps (P := State.entriesUnresolved) (fun _ _ => CaptureStep.entriesUnresolved) unresolved
  case sampleArrival =>
    obtain ⟨_, -, work⟩ := exec_sampleArrival h
    exact work.keeps (P := State.entriesUnresolved) (fun _ _ => AxisStep.entriesUnresolved) unresolved
  case axisStop =>
    cases h
    exact entriesUnresolved_serve unresolved fun r => onAxis_keeps (P := State.entriesUnresolved) r s unresolved fun a =>
      (stopAxis_axisWork a r s).keeps (P := State.entriesUnresolved) (fun _ _ => AxisStep.entriesUnresolved) unresolved
  case zeroCancel =>
    cases h
    exact entriesUnresolved_serve unresolved fun r => onAxis_keeps (P := State.entriesUnresolved) r s unresolved fun a =>
      entriesUnresolved_cancelZero a r unresolved
  case manualCapture =>
    cases h
    exact entriesUnresolved_serve unresolved fun r => entriesUnresolved_captureNow r unresolved
  case stopCapture =>
    cases h
    exact entriesUnresolved_serve unresolved fun r => by simp [State.entriesUnresolved]
  case powerOn | pin | supplyDip => cases h; exact nofun
  case fullRequest =>
    cases h
    split
    · exact nofun
    · exact unresolved
  case restart block =>
    exact execRestart_keeps (P := State.entriesUnresolved) block s t unresolved
      (fun l => entriesUnresolved_foldl_restartBlock l unresolved) (fun _ _ h => h)
      (fun u h => entriesUnresolved_congr h (by simp)) (fun r u h => entriesUnresolved_congr h (by simp [endRestart])) h
  case axisChainLoss a =>
    cases h
    split
    · exact chainLoss_keeps (P := State.entriesUnresolved) a (popLinkEvent a s) unresolved
        (entriesUnresolved_congr unresolved (by simp))
    · exact unresolved
  case unknownRequest | identify | readTable | writeTableSource | writeTableAxis | writeTableNonlinear
      | writeTableComposite | writeTableEnvgroup | writeTableWindow | writeTableCapmap | writeTableCompare
      | writeTableRoute | writeTableCountsel | writeTableTiming | axisStart | accept | zeroAtReference | preset
      | calibrate | calibrateAbort | axisStatus | arm | drain | queueStatus | readErrors | clearErrors | readCounters
      | clearCounters =>
    cases h
    exact entriesUnresolved_serve unresolved fun r => entriesUnresolved_congr unresolved (by simp)
  all_goals
    cases h
    repeat' split
    all_goals exact entriesUnresolved_congr unresolved (by simp)

/-- Settles O8: every command keeps the armed configuration valid and complete entries out of the pending list. -/
theorem stepKeepsCaptureConsistent : Obligations.StepKeepsCaptureConsistent := by
  unfold Obligations.StepKeepsCaptureConsistent
  exact ⟨fun s t holds h => step_keeps (P := State.armedValid) (fun _ _ h => h) (fun _ _ _ => exec_armedValid) holds h,
    fun s t holds h => step_keeps (P := State.entriesUnresolved) (fun _ _ h => h) (fun _ _ _ => exec_entriesUnresolved)
      holds h⟩

end Sys2Proof.Machine
end

section
/-! SUPPORT. The integer square root, and Kc' as the nearest integer (R121). -/

namespace Sys2Proof.Machine

/-- The bits found from the top are those of the square root rounded down. -/
theorem sqrtBits_spec (b x root : Nat) (low : root * root ≤ x) (high : x < (root + 2 ^ b) * (root + 2 ^ b)) :
    sqrtBits b x root * sqrtBits b x root ≤ x ∧ x < (sqrtBits b x root + 1) * (sqrtBits b x root + 1) := by
  induction b generalizing root with
  | zero => exact ⟨low, by simpa [sqrtBits] using high⟩
  | succ b ih =>
    have double : root + 2 ^ (b + 1) = root + 2 ^ b + 2 ^ b := by ring
    rw [sqrtBits]
    split
    next fits => exact ih _ fits (double ▸ high)
    next exceeds => exact ih _ low (Nat.lt_of_not_le exceeds)

section
variable {ks : Int}

/-- What R121 divides by, as a number of its range. -/
theorem secant_divisor (low : -4096 ≤ ks) (high : ks ≤ 4096) :
    ∃ d : Nat, (d : Int) = 268435456 - ks ^ 2 ∧ (268435456 - ks * ks).toNat = d
      ∧ 251658240 ≤ d ∧ d ≤ 268435456 := by
  have square : ks * ks ≤ 16777216 := by nlinarith
  have positive : 0 ≤ ks * ks := mul_self_nonneg ks
  refine ⟨(268435456 - ks * ks).toNat, ?_, rfl, ?_, ?_⟩
  · rw [sq]; omega
  · omega
  · omega

/-- R121: the nearest integer, by its two halves: 2n − 1 does not exceed 2^29 / sqrt d, and 2n + 1 does. -/
theorem secantOf_spec {d : Nat} (divisor : (268435456 - ks * ks).toNat = d) (low : 251658240 ≤ d)
    (high : d ≤ 268435456) :
    ∃ n : Nat, secantOf ks = n ∧ 1 ≤ n ∧ (2 * n - 1) * (2 * n - 1) * d ≤ 288230376151711744
      ∧ 288230376151711744 < (2 * n + 1) * (2 * n + 1) * d := by
  have positive : 0 < d := by omega
  have small : 288230376151711744 / d < (0 + 2 ^ 20) * (0 + 2 ^ 20) := by
    rw [Nat.div_lt_iff_lt_mul positive]
    omega
  obtain ⟨root, next⟩ := sqrtBits_spec 20 (288230376151711744 / d) 0 (Nat.zero_le _) small
  have atLeast : 1 ≤ sqrtBits 20 (288230376151711744 / d) 0 := by
    by_contra below
    have none : sqrtBits 20 (288230376151711744 / d) 0 = 0 := by omega
    have quotient : 1 ≤ 288230376151711744 / d := (Nat.one_le_div_iff positive).2 (by omega)
    rw [none] at next
    omega
  refine ⟨(sqrtBits 20 (288230376151711744 / d) 0 + 1) / 2, by rw [secantOf, divisor], ?_, ?_, ?_⟩
  all_goals generalize sqrtBits 20 (288230376151711744 / d) 0 = r at *
  · omega
  · have half : 2 * ((r + 1) / 2) - 1 ≤ r := by omega
    calc (2 * ((r + 1) / 2) - 1) * (2 * ((r + 1) / 2) - 1) * d ≤ r * r * d :=
          Nat.mul_le_mul_right _ (Nat.mul_le_mul half half)
      _ ≤ 288230376151711744 / d * d := Nat.mul_le_mul_right _ root
      _ ≤ 288230376151711744 := Nat.div_mul_le_self ..
  · have half : r + 1 ≤ 2 * ((r + 1) / 2) + 1 := by omega
    have above : 288230376151711744 / d < (2 * ((r + 1) / 2) + 1) * (2 * ((r + 1) / 2) + 1) :=
      next.trans_le (Nat.mul_le_mul half half)
    exact (Nat.div_lt_iff_lt_mul positive).1 above

/-- R121, R51: Kc' lies in the range of the Axis Table. -/
theorem secantOf_mem (low : -4096 ≤ ks) (high : ks ≤ 4096) : 16384 ≤ secantOf ks ∧ secantOf ks ≤ 16928 := by
  obtain ⟨d, -, divisor, least, most⟩ := secant_divisor low high
  obtain ⟨n, secant, positive, below, above⟩ := secantOf_spec divisor least most
  rw [secant]
  constructor
  · by_contra! small
    have side : 2 * n + 1 ≤ 32767 := by omega
    have product := Nat.mul_le_mul (Nat.mul_le_mul side side) most
    omega
  · by_contra! large
    have side : 33857 ≤ 2 * n - 1 := by omega
    have product := Nat.mul_le_mul (Nat.mul_le_mul side side) least
    omega

end

/-- Settles O18: the bits of the root of 2^58 / d, halved, are the nearest integer, whose squares bound it. -/
theorem calibratedSecantIsNearest : Obligations.CalibratedSecantIsNearest := by
  unfold Obligations.CalibratedSecantIsNearest
  intro ks low high
  obtain ⟨d, value, divisor, least, most⟩ := secant_divisor low high
  obtain ⟨n, secant, positive, below, above⟩ := secantOf_spec divisor least most
  refine ⟨?_, ?_, secantOf_mem low high⟩
  · rw [secant, ← value]
    zify [show 1 ≤ 2 * n by omega] at below
    linarith
  · rw [secant, ← value]
    zify at above
    linarith

end Sys2Proof.Machine
end

section
/-! SUPPORT. What can happen to an axis: every change that some command makes to one Axis Engine, as one relation, and every
command placed under it. -/

namespace Sys2Proof.Machine

/-- One change of an axis: what a write, a request, a sample, an advance or a message of CAP makes of it. `raw` holds of the
raw samples that reach its calibration. -/
inductive AxisMove (raw : Int → Prop) (x : Axis) : Axis → Prop
  | settings (new : AxisSettings) (inRange : settingsInRange new = true) (off : x.ctx.state = .off) :
      AxisMove raw x { x with settings := new }
  | nonlinear (k : Fin 64) (z : Int) (low : -128 ≤ z) (high : z ≤ 127) :
      AxisMove raw x { x with nonlinear := modifyAt x.nonlinear k fun _ => z }
  | start (observed : Time) (applied : Int) (off : x.ctx.state = .off) :
      AxisMove raw x { x with ctx := startedContext observed applied }
  | stop : AxisMove raw x (restartAxis x)
  | accept (slipped : x.ctx.state = .slipped) : AxisMove raw x { x with ctx := { x.ctx with state := .free } }
  | arm (counting : x.ctx.counting = true) : AxisMove raw x (beginArming x)
  | cancel (armed : x.ctx.armed = true) : AxisMove raw x { x with ctx := { x.ctx with zero := .none } }
  | preset (offset applied : Int) (now : Time) (counting : x.ctx.counting = true) :
      AxisMove raw x { x with ctx := applyPreset x.ctx offset applied now }
  | calibrate (m t : Nat) (required : m ≤ 255) (least : 1024 ≤ t) (most : t ≤ 1048576)
      (counting : x.ctx.counting = true) : AxisMove raw x { x with cal := startedCalibration m t }
  | abort : AxisMove raw x { x with cal := abortCal x.cal }
  | decay (started : x.ctx.state ≠ .off) : AxisMove raw x { x with ctx := decayBucket x.ctx }
  | seen (m : SampleMsg) (uv : Int × Int) (weak : Bool) (started : x.ctx.state ≠ .off) :
      AxisMove raw x { x with ctx := seenContext x.settings x.ctx m uv weak }
  | startCount (m : SampleMsg) (pc : Nat) (phase : pc < 4096) (acquiring : x.ctx.state = .acquire) :
      AxisMove raw x { x with ctx := startCount x.ctx m pc }
  | accepted (m : SampleMsg) (pc : Nat) (phase : pc < 4096) (started : x.ctx.state ≠ .off)
      (acquired : x.ctx.state ≠ .acquire) :
      AxisMove raw x { x with ctx := acceptSample x.ctx m pc (unwrap x.settings x.ctx m.time pc m.period) }
  | completed (strong : Option (Int × Int × Nat × Int)) (ranged : ∀ v ∈ strong, raw v.1 ∧ raw v.2.1)
      (running : x.cal.outcome = .running) :
      AxisMove raw x (completeCalibration x (fedRecord x.cal strong)).axis
  | timedOut (strong : Option (Int × Int × Nat × Int)) (ranged : ∀ v ∈ strong, raw v.1 ∧ raw v.2.1)
      (running : x.cal.outcome = .running) :
      AxisMove raw x (calibrationTimesOut x (fedRecord x.cal strong)).axis
  | fed (strong : Option (Int × Int × Nat × Int)) (ranged : ∀ v ∈ strong, raw v.1 ∧ raw v.2.1)
      (running : x.cal.outcome = .running)
      (below : (fedRecord x.cal strong).seen < (fedRecord x.cal strong).sampleLimit) :
      AxisMove raw x { x with cal := fedRecord x.cal strong }
  | lose (counting : x.ctx.counting = true) :
      AxisMove raw x { x with ctx := { x.ctx with state := .lost }, cal := abortCal x.cal }
  | headSilent (acquiring : x.ctx.state = .acquire) :
      AxisMove raw x { x with ctx := { x.ctx with silenceMark := true } }
  | notice (m : ZeroMsg) : AxisMove raw x { x with ctx := { x.ctx with zero := noticeEffect x.arming m x.ctx.zero } }
  | zeroWaits (entry : Nat) (resolving : x.ctx.zero = .resolving entry) :
      AxisMove raw x { x with ctx := { x.ctx with zero := .waiting } }
  | zeroed (pRef : Int) (tRef : Time) (refPos applied : Int) (now : Time) (counting : x.ctx.counting = true) :
      AxisMove raw x { x with ctx := applyZero x.ctx pRef tRef refPos applied now }

/-- Every axis has gone through some such changes, or none. -/
def AxesMove (raw : Int → Prop) (s t : State) : Prop :=
  ∀ b : AxisId, Relation.ReflTransGen (AxisMove raw) s.axes[b] t.axes[b]

section
variable {raw : Int → Prop}

theorem AxesMove.refl (s : State) : AxesMove raw s s := fun _ => .refl

theorem AxesMove.trans {s t u : State} (first : AxesMove raw s t) (second : AxesMove raw t u) : AxesMove raw s u :=
  fun b => (first b).trans (second b)

theorem axesMove_of_axes_eq {s t : State} (same : t.axes = s.axes) : AxesMove raw s t := by
  intro b
  rw [same]

/-- One axis changed. -/
theorem axesMove_of_modifyAt {s t : State} {a : AxisId} {f : Axis → Axis} (axes : t.axes = modifyAt s.axes a f)
    (move : AxisMove raw s.axes[a] (f s.axes[a])) : AxesMove raw s t := by
  intro b
  rw [axes, modifyAt_get]
  split
  next same => subst same; exact .single move
  next => exact .refl

theorem axesMove_modAxis {s : State} {a : AxisId} {f : Axis → Axis} (move : AxisMove raw s.axes[a] (f s.axes[a])) :
    AxesMove raw s (s.modAxis a f) :=
  axesMove_of_modifyAt (State.modAxis_axes ..) move

theorem axesMove_modCtx {s : State} {a : AxisId} {f : AxisContext → AxisContext}
    (move : AxisMove raw s.axes[a] { s.axes[a] with ctx := f (s.axes[a]).ctx }) : AxesMove raw s (s.modCtx a f) :=
  axesMove_of_modifyAt (State.modCtx_axes ..) move

/-- What each change keeps of an axis is kept of every axis. -/
theorem AxesMove.keeps {P : Axis → Prop} (moves : ∀ x y, AxisMove raw x y → P x → P y) {s t : State}
    (h : AxesMove raw s t) (holds : ∀ b : AxisId, P s.axes[b]) (b : AxisId) : P t.axes[b] := by
  have work := h b
  generalize t.axes[b] = y at work
  induction work with
  | refl => exact holds b
  | tail _ move ih => exact moves _ _ move ih

/-! ### The engines -/

theorem applyCalEnd_axes (s : State) (a : AxisId) (e : CalEnd) :
    (applyCalEnd s a e).axes = modifyAt s.axes a fun _ => e.axis := by
  unfold applyCalEnd
  dsimp only
  split <;> rfl

theorem offerToCalibration_axesMove (s : State) (a : AxisId) (strong : Option (Int × Int × Nat × Int))
    (ranged : ∀ v ∈ strong, raw v.1 ∧ raw v.2.1) : AxesMove raw s (offerToCalibration s a strong) := by
  rw [offerToCalibration_eq]
  split
  · exact .refl s
  next running =>
    have runs : (s.axes[a]).cal.outcome = .running := by simpa using running
    split
    · exact axesMove_of_modifyAt (applyCalEnd_axes ..) (.completed strong ranged runs)
    · split
      · exact axesMove_of_modifyAt (applyCalEnd_axes ..) (.timedOut strong ranged runs)
      next below => exact axesMove_modAxis (.fed strong ranged runs (Nat.lt_of_not_le below))

/-- R125, R126: the calibration of the axis ends if it runs. -/
theorem abortCalibration_axes (s : State) (a : AxisId) :
    (abortCalibration s a).axes = modifyAt s.axes a fun x => { x with cal := abortCal x.cal } := by
  unfold abortCalibration
  split
  · rfl
  next idle =>
    refine Vector.ext fun i hi => ?_
    have entry := modifyAt_get s.axes a ⟨i, hi⟩ fun x => { x with cal := abortCal x.cal }
    rw [Fin.getElem_fin] at entry
    rw [entry]
    split
    next same =>
      subst same
      simp only [abortCal, if_neg idle]
      rfl
    next => rfl

/-- Two changes of one axis are one. -/
theorem modifyAt_modifyAt {α : Type} {n : Nat} (v : Vector α n) (i : Fin n) (f g : α → α) :
    modifyAt (modifyAt v i f) i g = modifyAt v i (g ∘ f) := by
  refine Vector.ext fun j hj => ?_
  have outer := modifyAt_get (modifyAt v i f) i ⟨j, hj⟩ g
  have inner := modifyAt_get v i ⟨j, hj⟩ f
  have whole := modifyAt_get v i ⟨j, hj⟩ (g ∘ f)
  simp only [Fin.getElem_fin] at outer inner whole
  rw [outer, inner, whole]
  split <;> rfl

theorem loseAxis_axes (a : AxisId) (detail : Int) (s : State) : (loseAxis a detail s).axes = modifyAt s.axes a fun x =>
    { x with ctx := { x.ctx with state := .lost }, cal := abortCal x.cal } := by
  unfold loseAxis
  dsimp only
  rw [abortCalibration_axes, State.raise_axes, State.modCtx_axes, modifyAt_modifyAt]
  rfl

theorem checkSilence_axesMove (a : AxisId) (t : Time) (s : State) : AxesMove raw s (checkSilence a t s) := by
  unfold checkSilence
  dsimp only
  split
  · exact .refl s
  · split
    next counting => exact axesMove_of_modifyAt (loseAxis_axes ..) (.lose counting)
    next =>
      split
      next acquiring =>
        have marked : AxesMove raw s (s.modCtx a fun c => { c with silenceMark := true }) :=
          axesMove_modCtx (.headSilent acquiring.1)
        exact marked
      next => exact .refl s

theorem applyZeroTo_axes (a : AxisId) (pRef : Int) (tRef : Time) (s : State) :
    (applyZeroTo a pRef tRef s).axes = modifyAt s.axes a fun x =>
      let settings := (s.axes[a]).settings
      { x with ctx := applyZero x.ctx pRef tRef settings.refPosition (appliedOf s settings.group) s.cpt.observed } := by
  unfold applyZeroTo
  dsimp only
  split <;> rfl

theorem takeOutcome_axesMove (a : AxisId) (entry : Nat) (r : ZeroResult) (s : State) :
    AxesMove raw s (takeOutcome a entry r s) := by
  unfold takeOutcome
  split
  next resolving =>
    have waits : AxesMove raw s (zeroWaits a s) := axesMove_modCtx (.zeroWaits entry resolving)
    unfold takeResult
    split
    · split
      · exact waits
      · split
        next counting => exact axesMove_of_modifyAt (applyZeroTo_axes ..) (.zeroed _ _ _ _ _ counting)
        next =>
          split
          · exact waits
          · exact .refl s
    · exact waits
  next => exact .refl s

theorem takeNotice_axesMove (a : AxisId) (m : ZeroMsg) (s : State) : AxesMove raw s (takeNotice a m s) :=
  axesMove_modAxis (.notice m)

/-! ### Samples -/

/-- R42 to R45, R58, R60: the context of a seen sample, item by item. -/
theorem seenContext_eq (st : AxisSettings) (c : AxisContext) (m : SampleMsg) (uv : Int × Int) (weak : Bool) :
    seenContext st c m uv weak = { c with
      tSeen := m.time, seenMark := true, silenceRef := m.time, silenceMark := false
      signal := amplitude2 uv, weak := weakAfter st c.weak weak uv
      decay := if c.decay + 1 < st.decayInterval then c.decay + 1 else 0
      bucket := if c.decay + 1 < st.decayInterval then (if weak then min 255 (c.bucket + 1) else c.bucket)
        else (if weak then min 255 (c.bucket + 1) else c.bucket) - 1 } := by
  simp only [seenContext, countTowardDecay, fillBucket, markSeen, decayBucket]
  cases weak <;> simp only [Bool.false_eq_true, if_false, if_true] <;> split <;> rfl

/-- R59: what an engine raises as a seen sample takes its bucket to the threshold. -/
def degradedRaises (a : AxisId) (x : Axis) (weak : Bool) : List RaiseMsg :=
  if reachesThreshold x.settings x.ctx weak then
    [⟨.axe a, .signalDegraded, a.val, BitVec.ofInt 32 x.settings.bucketThreshold, 0⟩]
  else []

/-- R42, R43: the seen sample m of axis x is judged weak. -/
def seenWeak (x : Axis) (m : SampleMsg) : Bool :=
  judgedWeak x.settings x.ctx.weak m.overrange (stage1 x.settings m.c m.s)

/-- R42 to R45, R58 to R60: the part once axis a has seen the sample m, before it is counted. -/
def sampleSeen (a : AxisId) (m : SampleMsg) (s : State) : State :=
  (s.modCtx a fun c => seenContext (s.axes[a]).settings c m (stage1 (s.axes[a]).settings m.c m.s)
    (seenWeak s.axes[a] m)).raised (degradedRaises a s.axes[a] (seenWeak s.axes[a] m))

theorem raise_if (c : Bool) (s : State) (b : Block) (k : ErrorKind) (n : Nat) (d : Int) :
    (if c then s.raise b k n d else s) = s.raised (if c then [⟨b, k, n, BitVec.ofInt 32 d, 0⟩] else []) := by
  cases c
  · exact (State.raised_nil s).symm
  · exact raise_eq_raised s b k n d

/-- R58, R59: a seen sample that is weak counts in a calibration; a strong one moves the count. -/
theorem takeSeen_eq (a : AxisId) (m : SampleMsg) (s : State) : takeSeen a m s =
    if seenWeak s.axes[a] m then offerToCalibration ((sampleSeen a m s).report (.axe a) .weakSamples) a none
    else takeStrong a m (phaseOf (s.axes[a]).nonlinear (stage1 (s.axes[a]).settings m.c m.s)) (sampleSeen a m s) := by
  unfold takeSeen
  dsimp only
  rw [raise_if]
  rfl

theorem afterAcceptance_axesMove (a : AxisId) {m : SampleMsg} (ranged : raw m.c ∧ raw m.s) (pc : Nat) (delta : Int)
    (s : State) : AxesMove raw s (afterAcceptance a m pc delta s) := by
  have examined : AxesMove raw s (examineAxis a (s.report (.axe a) .samplesAccepted)) :=
    axesMove_of_axes_eq (by simp)
  refine examined.trans (offerToCalibration_axesMove _ a _ ?_)
  rintro v ⟨⟩
  exact ranged

theorem takeStrong_axesMove (a : AxisId) {m : SampleMsg} (ranged : raw m.c ∧ raw m.s) {pc : Nat} (phase : pc < 4096)
    {s : State} (started : (s.axes[a]).ctx.state ≠ .off) : AxesMove raw s (takeStrong a m pc s) := by
  unfold takeStrong
  dsimp only
  split
  next acquiring =>
    exact (axesMove_modCtx (.startCount m pc phase acquiring)).trans (afterAcceptance_axesMove a ranged _ _ _)
  next acquired =>
    have moved : AxesMove raw s (s.modCtx a fun c =>
        acceptSample c m pc (unwrap (s.axes[a]).settings (s.axes[a]).ctx m.time pc m.period)) :=
      axesMove_modCtx (.accepted m pc phase started acquired)
    refine (moved.trans (axesMove_of_axes_eq ?_)).trans (afterAcceptance_axesMove a ranged _ _ _)
    split <;> simp

theorem takeSeen_axesMove (a : AxisId) {m : SampleMsg} (ranged : raw m.c ∧ raw m.s) {s : State}
    (started : (s.axes[a]).ctx.state ≠ .off) : AxesMove raw s (takeSeen a m s) := by
  have context : AxesMove raw s (s.modCtx a fun c => seenContext (s.axes[a]).settings c m
      (stage1 (s.axes[a]).settings m.c m.s) (seenWeak s.axes[a] m)) := axesMove_modCtx (.seen m _ _ started)
  have seen : AxesMove raw s (sampleSeen a m s) := context.trans (axesMove_of_axes_eq rfl)
  have state : ((sampleSeen a m s).axes[a]).ctx.state = (s.axes[a]).ctx.state := by
    rw [sampleSeen, State.raised, State.modCtx_axes, modifyAt_same, seenContext_eq]
  rw [takeSeen_eq]
  split
  · have reported : AxesMove raw (sampleSeen a m s) ((sampleSeen a m s).report (.axe a) .weakSamples) :=
      axesMove_of_axes_eq rfl
    exact (seen.trans reported).trans (offerToCalibration_axesMove _ a none nofun)
  · refine seen.trans (takeStrong_axesMove a ranged (correctedPhase_lt _ _) ?_)
    rw [state]
    exact started

theorem takeArrival_axesMove (a : AxisId) {m : SampleMsg} (ranged : raw m.c ∧ raw m.s) (s : State) :
    AxesMove raw s (takeArrival a m s) := by
  unfold takeArrival
  dsimp only
  split
  · exact .refl s
  next started =>
    split
    · exact .refl s
    · exact takeSeen_axesMove a ranged started

end
end Sys2Proof.Machine
end

section
/-! SUPPORT. Every command as changes of the axes: each request, event and reset that reaches an axis. -/

namespace Sys2Proof.Machine

section
variable {raw : Int → Prop}

/-! ### Requests -/

theorem axesMove_serve {mine : Request → Bool} {owner : Request → State → Answer} {s : State}
    (owns : ∀ r, AxesMove raw s (owner r s).state) : AxesMove raw s (serve mine owner s) :=
  serve_cases (P := AxesMove raw s) (.refl s) fun r _ _ => (owns r).trans (axesMove_of_axes_eq (by simp [Answer.place]))

theorem axesMove_onAxis {act : AxisId → Request → State → Answer} {s : State}
    (acts : ∀ a r, AxesMove raw s (act a r s).state) (r : Request) : AxesMove raw s (onAxis act r s).state :=
  onAxis_keeps (P := AxesMove raw s) r s (.refl s) fun a => acts a r

/-- R182: an AXIS entry that a write accepts lies in its ranges. -/
theorem settingsInRange_of_axisSettingsOf {b : List Byte} {x : AxisSettings} (spelled : axisSettingsOf b = some x) :
    settingsInRange x = true := by
  unfold axisSettingsOf at spelled
  split at spelled
  · dsimp only at spelled
    split at spelled
    next legal =>
      cases spelled
      exact legal
    next => cases spelled
  next => cases spelled

theorem writeAxis_axesMove (r : Request) (s : State) : AxesMove raw s (writeAxis r s).state := by
  unfold writeAxis
  split
  · exact .refl s
  next a new found =>
    split
    · exact .refl s
    next off =>
      have legal : settingsInRange new = true := by
        obtain ⟨-, -, spelled⟩ := entryOf_eq_some.1 found
        exact settingsInRange_of_axisSettingsOf spelled
      exact axesMove_modAxis (.settings new legal (not_not.1 off))

theorem writeNonlinear_axesMove (r : Request) (s : State) : AxesMove raw s (writeNonlinear r s).state := by
  unfold writeNonlinear
  split
  · exact .refl s
  next i new found =>
    split
    · exact .refl s
    · have range : -128 ≤ new ∧ new ≤ 127 := by
        obtain ⟨-, -, spelled⟩ := entryOf_eq_some.1 found
        cases spelled
        have := signedField_mem r.args 0 (show 0 < 1 from Nat.one_pos)
        omega
      exact axesMove_modAxis (.nonlinear _ new range.1 range.2)

theorem startAxis_axesMove (a : AxisId) (r : Request) (s : State) : AxesMove raw s (startAxis a r s).state := by
  unfold startAxis
  dsimp only
  split
  · exact .refl s
  next may => exact axesMove_modCtx (.start _ _ (not_not.1 (not_or.1 may).1))

theorem stopAxis_axesMove (a : AxisId) (r : Request) (s : State) : AxesMove raw s (stopAxis a r s).state := by
  unfold stopAxis
  split
  · exact .refl s
  · refine axesMove_of_modifyAt (a := a) (f := restartAxis) ?_ .stop
    have resolved (u : State) : (resolveStopped a u).axes = u.axes := by simp
    rw [plain_state, resolved, abortCalibration_axes, State.modCtx_axes, modifyAt_modifyAt]
    rfl

theorem acceptAxis_axesMove (a : AxisId) (r : Request) (s : State) : AxesMove raw s (acceptAxis a r s).state := by
  unfold acceptAxis
  split
  next slipped => exact axesMove_modCtx (.accept slipped)
  · exact .refl s

theorem armZero_axesMove (a : AxisId) (r : Request) (s : State) : AxesMove raw s (armZero a r s).state := by
  unfold armZero
  dsimp only
  split
  · exact .refl s
  next counting =>
    split
    · exact .refl s
    · exact axesMove_modAxis (.arm (by simpa using counting))

theorem cancelZero_axesMove (a : AxisId) (r : Request) (s : State) : AxesMove raw s (cancelZero a r s).state := by
  unfold cancelZero
  split
  next armed =>
    have cancelled : AxesMove raw s (s.modCtx a fun c => { c with zero := .none }) := axesMove_modCtx (.cancel armed)
    exact cancelled.trans (axesMove_of_axes_eq rfl)
  · exact .refl s

theorem presetAxis_axesMove (a : AxisId) (r : Request) (s : State) : AxesMove raw s (presetAxis a r s).state := by
  unfold presetAxis
  dsimp only
  split
  · exact .refl s
  · split
    · exact .refl s
    next counting =>
      split
      · exact .refl s
      · exact axesMove_modCtx (.preset _ _ _ (by simpa using counting))

theorem calibrateAxis_axesMove (a : AxisId) (r : Request) (s : State) :
    AxesMove raw s (calibrateAxis a r s).state := by
  unfold calibrateAxis
  dsimp only
  split
  · exact .refl s
  next range =>
    split
    · exact .refl s
    next counting =>
      split
      · exact .refl s
      · have byte : field r.args 0 1 ≤ 255 := Nat.le_of_lt_succ (field_lt r.args 0 1)
        exact axesMove_modAxis (.calibrate _ _ byte (by omega) (by omega) (by simpa using counting))

theorem abortAxis_axesMove (a : AxisId) (r : Request) (s : State) : AxesMove raw s (abortAxis a r s).state := by
  unfold abortAxis
  split
  · exact axesMove_of_modifyAt (abortCalibration_axes ..) .abort
  · exact .refl s

theorem removeEntry_axesMove (s : State) (e : Entry) : AxesMove raw s (removeEntry s e) := by
  unfold removeEntry noticeRemoved
  dsimp only
  split
  · split
    · have reported : AxesMove raw s (s.report .cap .discardedByStop) := axesMove_of_axes_eq rfl
      exact reported.trans (takeNotice_axesMove _ _ _)
    · exact .refl s
  · exact .refl s

theorem foldl_removeEntry_axesMove (l : List Entry) (s : State) : AxesMove raw s (l.foldl removeEntry s) := by
  induction l generalizing s with
  | nil => exact .refl s
  | cons e l ih => exact (removeEntry_axesMove s e).trans (ih _)

theorem stopCapture_axesMove (r : Request) (s : State) : AxesMove raw s (stopCapture r s).state := by
  have begun : AxesMove raw s (s.modCap fun c => { c with entries := [], state := .stopped }) := axesMove_of_axes_eq rfl
  exact begun.trans (foldl_removeEntry_axesMove s.cap.entries _)

theorem restartBlock_axesMove (s : State) (b : Block) : AxesMove raw s (restartBlock s b) := by
  cases b with
  | axe a => exact axesMove_modAxis .stop
  | _ => exact axesMove_of_axes_eq rfl

theorem foldl_restartBlock_axesMove (l : List Block) (s : State) : AxesMove raw s (l.foldl restartBlock s) := by
  induction l generalizing s with
  | nil => exact .refl s
  | cons b l ih => exact (restartBlock_axesMove s b).trans (ih _)

/-! ### Every command -/

/-- Every command changes the axes by such changes, or is a full reset. -/
theorem exec_axesMove {i : Instr} {s t : State} (arrivals : ∀ a : AxisId, ∀ m ∈ s.bus.samples[a], raw m.c ∧ raw m.s)
    (h : exec i s = .next t) : AxesMove raw s t ∨ t.axes = Vector.replicate 6 {} := by
  cases i
  case writeTableAxis => cases h; exact .inl (axesMove_serve fun r => writeAxis_axesMove r s)
  case writeTableNonlinear => cases h; exact .inl (axesMove_serve fun r => writeNonlinear_axesMove r s)
  case axisStart => cases h; exact .inl (axesMove_serve (axesMove_onAxis fun a r => startAxis_axesMove a r s))
  case axisStop => cases h; exact .inl (axesMove_serve (axesMove_onAxis fun a r => stopAxis_axesMove a r s))
  case accept => cases h; exact .inl (axesMove_serve (axesMove_onAxis fun a r => acceptAxis_axesMove a r s))
  case zeroAtReference => cases h; exact .inl (axesMove_serve (axesMove_onAxis fun a r => armZero_axesMove a r s))
  case zeroCancel => cases h; exact .inl (axesMove_serve (axesMove_onAxis fun a r => cancelZero_axesMove a r s))
  case preset => cases h; exact .inl (axesMove_serve (axesMove_onAxis fun a r => presetAxis_axesMove a r s))
  case calibrate => cases h; exact .inl (axesMove_serve (axesMove_onAxis fun a r => calibrateAxis_axesMove a r s))
  case calibrateAbort => cases h; exact .inl (axesMove_serve (axesMove_onAxis fun a r => abortAxis_axesMove a r s))
  case stopCapture => cases h; exact .inl (axesMove_serve fun r => stopCapture_axesMove r s)
  case sampleArrival a =>
    cases h
    left
    split
    · exact .refl s
    next m rest waiting =>
      have popped : AxesMove raw s (s.modBus fun b => { b with samples := modifyAt b.samples a (·.drop 1) }) :=
        axesMove_of_axes_eq rfl
      exact popped.trans (takeArrival_axesMove a (arrivals a m (by simp [waiting])) _)
  case bucketDecay a =>
    cases h
    left
    intro b
    have entry := modifyAt_get s.axes a b fun x =>
      if x.ctx.state ≠ .off ∧ x.settings.decayInterval ≤ x.ctx.decay + 1 then { x with ctx := decayBucket x.ctx } else x
    rw [State.modAxis_axes, entry]
    split
    · split
      next due => exact .single (.decay due.1)
      next => exact .refl
    · exact .refl
  case calibrationTimeout a =>
    cases h
    left
    dsimp only
    split
    next due => exact axesMove_of_modifyAt (applyCalEnd_axes ..) (.timedOut none nofun due.1)
    · exact .refl s
  case axisSilence a =>
    cases h
    left
    split
    · exact (axesMove_of_axes_eq (by simp) : AxesMove raw s (popLinkEvent a s)).trans (checkSilence_axesMove _ _ _)
    · exact .refl s
  case axisChainLoss a =>
    cases h
    left
    split
    · dsimp only
      split
      next counting =>
        have popped : AxesMove raw s (popLinkEvent a s) := axesMove_of_axes_eq (by simp)
        exact popped.trans (axesMove_of_modifyAt (loseAxis_axes ..) (.lose counting))
      · exact axesMove_of_axes_eq (by simp)
    · exact .refl s
  case zeroNotice a =>
    cases h
    left
    have popped : AxesMove raw s (popZeroMsg a s) := axesMove_of_axes_eq (by simp)
    split
    · exact popped.trans (takeNotice_axesMove _ _ _)
    · exact popped.trans (takeNotice_axesMove _ _ _)
    · exact .refl s
  case zeroOutcome a =>
    cases h
    left
    have popped : AxesMove raw s (popZeroMsg a s) := axesMove_of_axes_eq (by simp)
    split
    · exact popped.trans (takeOutcome_axesMove _ _ _ _)
    · exact .refl s
  case powerOn | pin | supplyDip => cases h; exact .inr rfl
  case fullRequest =>
    cases h
    split
    · exact .inr rfl
    · exact .inl (.refl s)
  case restart block =>
    exact .inl (execRestart_keeps (P := AxesMove raw s) block s t (.refl s) (fun l => foldl_restartBlock_axesMove l s)
      (fun _ _ h => h) (fun u h => h.trans (axesMove_of_axes_eq (by simp)))
      (fun r u h => h.trans (axesMove_of_axes_eq (by simp [endRestart]))) h)
  all_goals
    cases h
    repeat' split
    all_goals exact .inl (axesMove_of_axes_eq (by simp))

end
end Sys2Proof.Machine
end

section
/-! SUPPORT. The ranges and the consistency of the axis contexts, change by change (R57, R61, R71, R78, R103, R117). -/

namespace Sys2Proof.Machine

/-! ### The history ring -/

theorem length_pushRing {ring : List HistEntry} (short : ring.length ≤ 64) (h : HistEntry) :
    (pushRing ring h).length ≤ 64 := by
  have depth : Config.ringDepth = 64 := rfl
  unfold pushRing
  split <;> simp <;> omega

theorem mem_pushRing {ring : List HistEntry} {h x : HistEntry} (mem : x ∈ pushRing ring h) : x ∈ ring ∨ x = h := by
  unfold pushRing at mem
  rw [List.mem_append, List.mem_singleton] at mem
  refine mem.imp_left fun old => ?_
  split at old
  · exact old
  · exact List.mem_of_mem_drop old

/-- The flags a zero sets change no count. -/
theorem counts_flagReferenced (ring : List HistEntry) : (flagReferenced ring).map (·.count) = ring.map (·.count) := by
  induction ring using List.reverseRecOn with
  | nil => rfl
  | append_singleton older newest ih =>
    rw [flagReferenced_concat]
    split <;> simp [ih]

/-- The flag a preset sets changes no count. -/
theorem counts_flagNewest (ring : List HistEntry) : (flagNewest ring).map (·.count) = ring.map (·.count) := by
  induction ring with
  | nil => rfl
  | cons h ring ih =>
    cases ring with
    | nil => rfl
    | cons x ring => exact congrArg (h.count :: ·) ih

/-- Entries with the counts of a legal ring are legal, and as many. -/
theorem ring_legal_of_counts {ring ring' : List HistEntry} (counts : ring'.map (·.count) = ring.map (·.count))
    (legal : ring.length ≤ 64 ∧ ∀ h ∈ ring, h.legal) : ring'.length ≤ 64 ∧ ∀ h ∈ ring', h.legal := by
  have lengths : ring'.length = ring.length := by simpa using congrArg List.length counts
  refine ⟨lengths.trans_le legal.1, fun h mem => ?_⟩
  have counted : h.count ∈ ring.map (·.count) := counts ▸ List.mem_map_of_mem mem
  obtain ⟨x, old, same⟩ := List.mem_map.1 counted
  rw [HistEntry.legal, ← same]
  exact legal.2 x old

/-! ### Unwrapping -/

theorem applyStep_ranged (threshold : Nat) (c : AxisContext) (step : Int × Int × Bool × List (ErrorKind × Int))
    (tracking : -1048575 ≤ step.2.1 ∧ step.2.1 ≤ 1048575) :
    within48 (applyStep threshold c step).count = true ∧ -1048575 ≤ (applyStep threshold c step).tracking
      ∧ (applyStep threshold c step).tracking ≤ 1048575 :=
  ⟨within48_saturate _, tracking⟩

theorem unwrap_ranged (st : AxisSettings) (c : AxisContext) (time : Time) (pc period : Nat) :
    within48 (unwrap st c time pc period).count = true ∧ -1048575 ≤ (unwrap st c time pc period).tracking
      ∧ (unwrap st c time pc period).tracking ≤ 1048575 := by
  unfold unwrap
  refine applyStep_ranged _ c _ ?_
  split
  · exact ⟨(by decide : (-1048575 : Int) ≤ 0), (by decide : (0 : Int) ≤ 1048575)⟩
  · exact clamp_mem (by decide) _

/-! ### What a calibration makes of its axis -/

/-- The record r' is the record r ended: what it gathered and counted is kept. -/
def EndedRecord (r r' : CalRecord) : Prop :=
  r' = { r with
      outcome := r'.outcome, reason := r'.reason, oC := r'.oC, oS := r'.oS, gain := r'.gain, ks := r'.ks, kc := r'.kc }
    ∧ r'.outcome ≠ .running

/-- R121, R122: the coefficients of a result that passed the tests of its values. -/
structure PassedResult (r r' : CalRecord) : Prop where
  offsetC : r'.oC = (r.maxC + r.minC + 1) / 2
  offsetS : r'.oS = (r.maxS + r.minS + 1) / 2
  gain : 8192 ≤ r'.gain ∧ r'.gain ≤ 32768
  sine : |r'.ks| ≤ 4096
  secant : r'.kc = secantOf r'.ks

/-- A calibration that completes ends its record, and changes the settings and the phase of its axis only where the
result passed. -/
inductive CompletedAxis (x : Axis) (r : CalRecord) : Axis → Prop
  | rejected (r' : CalRecord) (ended : EndedRecord r r') : CompletedAxis x r { x with cal := r' }
  | installed (r' : CalRecord) (ended : EndedRecord r r') (passed : PassedResult r r') (pc : Nat) (phase : pc < 4096) :
      CompletedAxis x r { x with
        settings := withCoefficients x.settings r', ctx := { x.ctx with pcPrev := pc }, cal := r' }

theorem completeCalibration_completed (x : Axis) (r : CalRecord) : CompletedAxis x r (completeCalibration x r).axis := by
  unfold completeCalibration
  dsimp only
  split
  · exact .rejected _ ⟨rfl, nofun⟩
  · split
    · exact .rejected _ ⟨rfl, nofun⟩
    · split
      · exact .rejected _ ⟨rfl, nofun⟩
      next gain =>
        split
        · exact .rejected _ ⟨rfl, nofun⟩
        next sine =>
          split
          · exact .rejected _ ⟨rfl, nofun⟩
          · obtain ⟨low, high⟩ := not_or.1 gain
            exact @CompletedAxis.installed x r { formKc (formKs (formGain (formOffsets r))) with outcome := .installed }
              ⟨rfl, nofun⟩
              ⟨rfl, rfl, ⟨not_lt.1 low, not_lt.1 high⟩, not_lt.1 sine, rfl⟩ _ (correctedPhase_lt _ _)

theorem calibrationTimesOut_completed (x : Axis) (r : CalRecord) : CompletedAxis x r (calibrationTimesOut x r).axis :=
  .rejected _ ⟨rfl, nofun⟩

/-- What a seen sample changes in the counts of a calibration. -/
theorem fedRecord_counts (r : CalRecord) (strong : Option (Int × Int × Nat × Int)) :
    (fedRecord r strong).outcome = r.outcome ∧ (fedRecord r strong).required = r.required
      ∧ (fedRecord r strong).sampleLimit = r.sampleLimit ∧ (fedRecord r strong).seen = r.seen + 1
      ∧ (r.motion ≤ 4294967295 → (fedRecord r strong).motion ≤ 4294967295) := by
  cases strong with
  | none => exact ⟨rfl, rfl, rfl, rfl, id⟩
  | some v =>
    simp only [fedRecord, feedMotion, feedExtremes]
    split
    · split <;> split <;> exact ⟨rfl, rfl, rfl, rfl, fun _ => min_le_left _ _⟩
    · exact ⟨rfl, rfl, rfl, rfl, fun _ => min_le_left _ _⟩

@[simp] theorem abortCal_outcome_ne (r : CalRecord) : (abortCal r).outcome ≠ .running := by
  unfold abortCal
  split
  · exact nofun
  next idle => exact idle

/-! ### The context -/

theorem AxisContext.counting_iff {c : AxisContext} :
    c.counting = true ↔ c.state ≠ .off ∧ c.state ≠ .acquire ∧ c.state ≠ .lost := by
  unfold AxisContext.counting
  cases c.state <;> decide

/-- What is legal of one axis. -/
abbrev Axis.legal (x : Axis) : Prop := x.ctx.ranged ∧ x.consistent

theorem ranged_default : AxisContext.ranged {} :=
  ⟨by decide, by decide, by decide, by decide, by decide, by decide, nofun⟩

section
variable {raw : Int → Prop} {x y : Axis}

theorem consistent_of_counting (counts : x.ctx.counting = true) (zeroed : x.ctx.state = .referenced →
    x.ctx.refKind ≠ .none) : x.consistent := by
  obtain ⟨started, acquired, -⟩ := AxisContext.counting_iff.1 counts
  exact ⟨fun off => absurd off started, fun acquire => absurd acquire acquired, zeroed, fun _ => counts⟩

theorem stateAfterSample_counting {c : AxisContext} (started : c.state ≠ .off) (acquired : c.state ≠ .acquire)
    (slip : Bool) : { c with state := stateAfterSample c.state slip }.counting = true := by
  rw [AxisContext.counting_iff]
  unfold stateAfterSample
  split
  · exact ⟨nofun, nofun, nofun⟩
  · cases slip <;> exact ⟨nofun, nofun, nofun⟩
  next notLost _ => exact ⟨started, acquired, notLost⟩

theorem stateAfterSample_eq_referenced {state : AxisState} {slip : Bool} :
    stateAfterSample state slip = .referenced ↔ state = .referenced ∧ slip = false := by
  cases state <;> cases slip <;> decide

theorem CompletedAxis.legal {r : CalRecord} (completed : CompletedAxis x r y) (legal : x.legal)
    (runs : x.cal.outcome = .running) : y.legal := by
  obtain ⟨⟨count, phase, low, high, bucket, ring⟩, off, acquire, referenced, running⟩ := legal
  cases completed with
  | rejected r' ended =>
    exact ⟨⟨count, phase, low, high, bucket, ring⟩, off, acquire, referenced, fun runs => absurd runs ended.2⟩
  | installed r' ended passed pc pcRange =>
    exact ⟨⟨count, pcRange, low, high, bucket, ring⟩, consistent_of_counting (running runs) referenced⟩

theorem AxisMove.legal (move : AxisMove raw x y) (legal : x.legal) : y.legal := by
  obtain ⟨ranged, off, acquire, referenced, running⟩ := legal
  obtain ⟨count, phase, low, high, bucket, ring⟩ := ranged
  cases move with
  | settings | nonlinear => exact ⟨⟨count, phase, low, high, bucket, ring⟩, off, acquire, referenced, running⟩
  | start observed applied isOff =>
    refine ⟨ranged_default, nofun, fun _ => ⟨rfl, rfl, rfl⟩, nofun, fun runs => ?_⟩
    have counting := AxisContext.counting_iff.1 (running runs)
    exact absurd isOff counting.1
  | stop => exact ⟨ranged_default, fun _ => rfl, nofun, nofun, fun runs => absurd runs (abortCal_outcome_ne _)⟩
  | accept slipped => exact ⟨⟨count, phase, low, high, bucket, ring⟩, consistent_of_counting rfl nofun⟩
  | arm counting => exact ⟨⟨count, phase, low, high, bucket, ring⟩, consistent_of_counting counting referenced⟩
  | cancel armed =>
    refine ⟨⟨count, phase, low, high, bucket, ring⟩, fun isOff => ?_, fun isAcquire => ?_, referenced, running⟩
    · rw [AxisContext.armed, off isOff] at armed
      cases armed
    · obtain ⟨noRing, noCount, -⟩ := acquire isAcquire
      exact ⟨noRing, noCount, rfl⟩
  | preset offset applied now counting =>
    exact ⟨⟨count, phase, low, high, bucket, ring_legal_of_counts (counts_flagNewest _) ring⟩,
      consistent_of_counting rfl nofun⟩
  | calibrate m n required least most counting =>
    exact ⟨⟨count, phase, low, high, bucket, ring⟩, consistent_of_counting counting referenced⟩
  | abort =>
    exact ⟨⟨count, phase, low, high, bucket, ring⟩, off, acquire, referenced,
      fun runs => absurd runs (abortCal_outcome_ne _)⟩
  | decay started =>
    exact ⟨⟨count, phase, low, high, (Nat.sub_le _ _).trans bucket, ring⟩, fun isOff => absurd isOff started, acquire,
      referenced, running⟩
  | seen m uv weak started =>
    rw [seenContext_eq]
    refine ⟨⟨count, phase, low, high, ?_, ring⟩, fun isOff => absurd isOff started, acquire, referenced, running⟩
    dsimp only
    split <;> split <;> omega
  | startCount m pc pcRange acquiring =>
    obtain ⟨noRing, -, -⟩ := acquire acquiring
    refine ⟨⟨rfl, pcRange, (by decide : (-1048575 : Int) ≤ 0), (by decide : (0 : Int) ≤ 1048575), bucket, ?_, ?_⟩,
      consistent_of_counting rfl nofun⟩
    · exact length_pushRing ring.1 _
    · intro h mem
      obtain old | rfl := mem_pushRing mem
      · exact ring.2 h old
      · rfl
  | accepted m pc pcRange started acquired =>
    obtain ⟨newCount, newLow, newHigh⟩ := unwrap_ranged x.settings x.ctx m.time pc m.period
    refine ⟨⟨newCount, pcRange, newLow, newHigh, bucket, length_pushRing ring.1 _, ?_⟩, consistent_of_counting ?_ ?_⟩
    · intro h mem
      obtain old | rfl := mem_pushRing mem
      · exact ring.2 h old
      · exact newCount
    · exact stateAfterSample_counting started acquired _
    · intro isReferenced
      exact referenced (stateAfterSample_eq_referenced.1 isReferenced).1
  | completed strong ranged runs =>
    exact (completeCalibration_completed x _).legal ⟨⟨count, phase, low, high, bucket, ring⟩, off, acquire, referenced,
      running⟩ runs
  | timedOut strong ranged runs =>
    exact (calibrationTimesOut_completed x _).legal ⟨⟨count, phase, low, high, bucket, ring⟩, off, acquire, referenced,
      running⟩ runs
  | fed strong ranged runs below =>
    exact ⟨⟨count, phase, low, high, bucket, ring⟩, off, acquire, referenced, fun _ => running runs⟩
  | lose counting =>
    exact ⟨⟨count, phase, low, high, bucket, ring⟩, nofun, nofun, nofun,
      fun runs => absurd runs (abortCal_outcome_ne _)⟩
  | headSilent acquiring =>
    refine ⟨⟨count, phase, low, high, bucket, ring⟩, fun isOff => ?_, acquire, referenced, running⟩
    exact absurd (acquiring.symm.trans isOff) nofun
  | notice m =>
    refine ⟨⟨count, phase, low, high, bucket, ring⟩, fun isOff => ?_, fun isAcquire => ?_, referenced, running⟩
    · rw [off isOff]
      cases m <;> rfl
    · obtain ⟨noRing, noCount, unarmed⟩ := acquire isAcquire
      refine ⟨noRing, noCount, ?_⟩
      dsimp only
      rw [unarmed]
      cases m <;> rfl
  | zeroWaits entry resolving =>
    refine ⟨⟨count, phase, low, high, bucket, ring⟩, fun isOff => ?_, fun isAcquire => ?_, referenced, running⟩
    · rw [off isOff] at resolving
      cases resolving
    · obtain ⟨-, -, unarmed⟩ := acquire isAcquire
      exact absurd (unarmed.symm.trans resolving) nofun
  | zeroed pRef tRef refPos applied now counting =>
    refine ⟨⟨within48_saturate _, phase, low, high, bucket,
      ring_legal_of_counts (counts_flagReferenced _) ⟨by simpa using ring.1, ?_⟩⟩, consistent_of_counting rfl nofun⟩
    intro h mem
    obtain ⟨old, -, rfl⟩ := List.mem_map.1 mem
    exact within48_saturate _

/-! ### The decay counts and the calibration counts -/

/-- R60: a seen sample leaves the decay count below its interval. -/
theorem seenContext_decay_lt (c : AxisContext) (m : SampleMsg) (uv : Int × Int) (weak : Bool) {st : AxisSettings}
    (positive : 0 < st.decayInterval) : (seenContext st c m uv weak).decay < st.decayInterval := by
  rw [seenContext_eq]
  dsimp only
  split
  next below => exact below
  next => exact positive

theorem abortCal_counts (r : CalRecord) : (abortCal r).required = r.required ∧ (abortCal r).sampleLimit = r.sampleLimit
    ∧ (abortCal r).seen = r.seen ∧ (abortCal r).motion = r.motion := by
  unfold abortCal
  split <;> exact ⟨rfl, rfl, rfl, rfl⟩

/-- R51: a decay interval in its range is above 0. -/
theorem sixteen_le_decayInterval {st : AxisSettings} (inRange : settingsInRange st = true) : 16 ≤ st.decayInterval := by
  simp only [settingsInRange, Bool.and_eq_true, decide_eq_true_iff] at inRange
  tauto

/-- R115: the counts of a calibration record are within their limits. -/
def CalRecord.counted (r : CalRecord) : Prop :=
  r.required ≤ 255 ∧ r.sampleLimit ≤ 1048576 ∧ r.seen ≤ r.sampleLimit ∧ r.motion ≤ 4294967295
    ∧ (r.outcome = .running → r.seen < r.sampleLimit)

theorem Axis.counted_iff (x : Axis) : x.counted ↔ x.ctx.decay < x.settings.decayInterval ∧ x.cal.counted := Iff.rfl

theorem counted_abortCal {r : CalRecord} (counted : r.counted) : (abortCal r).counted := by
  obtain ⟨required, limit, seen, motion, -⟩ := counted
  obtain ⟨sameRequired, sameLimit, sameSeen, sameMotion⟩ := abortCal_counts r
  exact ⟨sameRequired ▸ required, sameLimit ▸ limit, by rwa [sameSeen, sameLimit], sameMotion ▸ motion,
    fun runs => absurd runs (abortCal_outcome_ne r)⟩

/-- A running record fed one sample has its counts within their limits, and is still below its sample limit if it is not
ended. -/
theorem counted_fedRecord {r : CalRecord} (counted : r.counted) (runs : r.outcome = .running)
    (strong : Option (Int × Int × Nat × Int)) (r' : CalRecord) (ended : EndedRecord (fedRecord r strong) r'
      ∨ r' = fedRecord r strong ∧ (fedRecord r strong).seen < (fedRecord r strong).sampleLimit) : r'.counted := by
  obtain ⟨required, limit, -, motion, below⟩ := counted
  obtain ⟨-, sameRequired, sameLimit, oneMore, motionKept⟩ := fedRecord_counts r strong
  have fed : (fedRecord r strong).required ≤ 255 ∧ (fedRecord r strong).sampleLimit ≤ 1048576
      ∧ (fedRecord r strong).seen ≤ (fedRecord r strong).sampleLimit
      ∧ (fedRecord r strong).motion ≤ 4294967295 := by
    have := below runs
    exact ⟨sameRequired ▸ required, sameLimit ▸ limit, by omega, motionKept motion⟩
  obtain ⟨fedRequired, fedLimit, fedSeen, fedMotion⟩ := fed
  obtain ⟨same, stopped⟩ | ⟨rfl, more⟩ := ended
  · rw [same]
    exact ⟨fedRequired, fedLimit, fedSeen, fedMotion, fun running => absurd running stopped⟩
  · exact ⟨fedRequired, fedLimit, fedSeen, fedMotion, fun _ => more⟩

theorem CompletedAxis.counted {strong : Option (Int × Int × Nat × Int)}
    (completed : CompletedAxis x (fedRecord x.cal strong) y) (counted : x.counted) (runs : x.cal.outcome = .running) :
    y.counted := by
  obtain ⟨decay, cal⟩ := (x.counted_iff).1 counted
  cases completed with
  | rejected r' ended => exact ⟨decay, counted_fedRecord cal runs strong r' (.inl ended)⟩
  | installed r' ended => exact ⟨decay, counted_fedRecord cal runs strong r' (.inl ended)⟩

theorem AxisMove.counted (move : AxisMove raw x y) (consistent : x.consistent) (counted : x.counted) : y.counted := by
  obtain ⟨decay, cal⟩ := (x.counted_iff).1 counted
  have positive : 0 < x.settings.decayInterval := Nat.zero_lt_of_lt decay
  obtain ⟨off, -⟩ := consistent
  cases move with
  | settings new inRange isOff =>
    have least := sixteen_le_decayInterval inRange
    refine ⟨?_, cal⟩
    rw [off isOff]
    exact Nat.lt_of_lt_of_le (Nat.succ_pos 15) least
  | start => exact ⟨positive, cal⟩
  | stop => exact ⟨positive, counted_abortCal cal⟩
  | calibrate m n required least most =>
    refine ⟨decay, required, most, Nat.zero_le _, Nat.zero_le _, fun _ => ?_⟩
    exact Nat.lt_of_lt_of_le (Nat.succ_pos 1023) least
  | abort => exact ⟨decay, counted_abortCal cal⟩
  | lose => exact ⟨decay, counted_abortCal cal⟩
  | decay => exact ⟨positive, cal⟩
  | seen m uv weak => exact ⟨seenContext_decay_lt _ m uv weak positive, cal⟩
  | completed strong ranged runs => exact (completeCalibration_completed x _).counted counted runs
  | timedOut strong ranged runs => exact (calibrationTimesOut_completed x _).counted counted runs
  | fed strong ranged runs below => exact ⟨decay, counted_fedRecord cal runs strong _ (.inr ⟨rfl, below⟩)⟩
  | _ => exact ⟨decay, cal⟩

end

/-! ### Every command -/

theorem axis_default_legal : Axis.legal {} := ⟨ranged_default, fun _ => rfl, nofun, nofun, nofun⟩

theorem axis_default_counted : Axis.counted {} :=
  ⟨by decide, Nat.zero_le _, Nat.zero_le _, Nat.zero_le _, Nat.zero_le _, nofun⟩

/-- What every change of an axis keeps and the reset values have, every command keeps. -/
theorem exec_keeps_axes {raw : Int → Prop} {P : Axis → Prop} (moves : ∀ x y, AxisMove raw x y → P x → P y)
    (resets : P {}) {i : Instr} {s t : State} (arrivals : ∀ a : AxisId, ∀ m ∈ s.bus.samples[a], raw m.c ∧ raw m.s)
    (holds : ∀ a : AxisId, P s.axes[a]) (h : exec i s = .next t) (a : AxisId) : P t.axes[a] := by
  obtain moved | reset := exec_axesMove arrivals h
  · exact moved.keeps moves holds a
  · rw [reset]
    simpa using resets

theorem exec_axesLegal {i : Instr} {s t : State} (legal : s.axesLegal) (h : exec i s = .next t) : t.axesLegal :=
  exec_keeps_axes (raw := fun _ => True) (P := Axis.legal) (fun _ _ => AxisMove.legal) axis_default_legal
    (fun _ _ _ => ⟨trivial, trivial⟩) legal h

theorem exec_axesCounted {i : Instr} {s t : State} (legal : s.axesLegal) (counted : s.axesCounted)
    (h : exec i s = .next t) : t.axesCounted := by
  have both := exec_keeps_axes (raw := fun _ => True) (P := fun x => x.legal ∧ x.counted)
    (fun _ _ move holds => ⟨move.legal holds.1, move.counted holds.1.2 holds.2⟩)
    ⟨axis_default_legal, axis_default_counted⟩ (fun _ _ _ => ⟨trivial, trivial⟩) (fun a => ⟨legal a, counted a⟩) h
  exact fun a => (both a).2

/-- Settles O4: every command is a chain of changes of single axes, or a full reset, and each change keeps the ranges, the
consistency and the counts of its axis. -/
theorem stepKeepsAxisContextsLegal : Obligations.StepKeepsAxisContextsLegal := by
  unfold Obligations.StepKeepsAxisContextsLegal
  refine ⟨fun s t legal h => step_keeps (P := State.axesLegal) (fun _ _ h => h) (fun _ _ _ => exec_axesLegal) legal h,
    fun s t legal counted h => ?_⟩
  exact (step_keeps (P := fun u => u.axesLegal ∧ u.axesCounted) (fun _ _ h => h)
    (fun _ _ _ holds h => ⟨exec_axesLegal holds.1 h, exec_axesCounted holds.1 holds.2 h⟩) ⟨legal, counted⟩ h).2

end Sys2Proof.Machine
end

section
/-! SUPPORT. The settings, the calibration records and the samples on their way in their ranges, and the values of the
environment groups (R51, R54, R84, R85). -/

namespace Sys2Proof.Machine

/-! ### Calibrations and settings -/

theorem CalRecord.gathered_default : CalRecord.gathered {} := by decide

/-- R118: a strong sample in range widens the extremes within the range of the raw samples. -/
theorem gathered_fedRecord {r : CalRecord} (gathered : r.gathered) (strong : Option (Int × Int × Nat × Int))
    (ranged : ∀ v ∈ strong, isS16 v.1 ∧ isS16 v.2.1) : (fedRecord r strong).gathered := by
  cases strong with
  | none => exact gathered
  | some v =>
    obtain ⟨c, sn, pc, delta⟩ := v
    obtain ⟨⟨cLow, cHigh⟩, sLow, sHigh⟩ : isS16 c ∧ isS16 sn := ranged _ rfl
    simp only [CalRecord.gathered, isS16] at gathered
    simp only [fedRecord, feedMotion, feedExtremes, CalRecord.gathered, isS16]
    split
    · split <;> split <;> simp only [le_max_iff, min_le_iff, le_min_iff, max_le_iff] <;> omega
    · simp only
      omega

theorem gathered_abortCal {r : CalRecord} (gathered : r.gathered) : (abortCal r).gathered := by
  unfold abortCal
  split <;> exact gathered

theorem EndedRecord.gathered {r r' : CalRecord} (ended : EndedRecord r r') (gathered : r.gathered) : r'.gathered := by
  rw [ended.1]
  exact gathered

/-- R54: the coefficients of a result that passed lie in the ranges of R51. -/
theorem settingsInRange_withCoefficients {st : AxisSettings} {r r' : CalRecord} (passed : PassedResult r r')
    (gathered : r.gathered) (inRange : settingsInRange st = true) :
    settingsInRange (withCoefficients st r') = true := by
  obtain ⟨offsetC, offsetS, ⟨gainLow, gainHigh⟩, sine, secant⟩ := passed
  obtain ⟨sineLow, sineHigh⟩ := abs_le.1 sine
  obtain ⟨secantLow, secantHigh⟩ := secantOf_mem sineLow sineHigh
  simp only [CalRecord.gathered, isS16] at gathered
  have between {low high z : Int} (least : low ≤ z) (most : z ≤ high) : Machine.inRange low high z = true := by
    simp [Machine.inRange, least, most]
  simp only [settingsInRange, Bool.and_eq_true, and_assoc] at inRange ⊢
  obtain ⟨-, -, -, -, -, others⟩ := inRange
  refine ⟨between ?_ ?_, between ?_ ?_, between gainLow gainHigh, between sineLow sineHigh,
    between (secantLow.trans secant.ge) (secant.le.trans secantHigh), others⟩
  all_goals
    simp only [withCoefficients, offsetC, offsetS]
    omega

/-- What settingsLegal says of one axis. -/
abbrev Axis.settled (x : Axis) : Prop :=
  settingsInRange x.settings = true ∧ x.cal.gathered ∧ ∀ k : Fin 64, -128 ≤ x.nonlinear[k] ∧ x.nonlinear[k] ≤ 127

theorem CompletedAxis.settled {x y : Axis} {r : CalRecord} (completed : CompletedAxis x r y) (settled : x.settled)
    (gathered : r.gathered) : y.settled := by
  obtain ⟨inRange, -, entries⟩ := settled
  cases completed with
  | rejected r' ended => exact ⟨inRange, ended.gathered gathered, entries⟩
  | installed r' ended passed =>
    exact ⟨settingsInRange_withCoefficients passed gathered inRange, ended.gathered gathered, entries⟩

theorem AxisMove.settled {x y : Axis} (move : AxisMove isS16 x y) (settled : x.settled) : y.settled := by
  obtain ⟨inRange, gathered, entries⟩ := id settled
  cases move with
  | settings new legal => exact ⟨legal, gathered, entries⟩
  | nonlinear k z low high =>
    refine ⟨inRange, gathered, fun j => ?_⟩
    rw [modifyAt_get]
    split
    · exact ⟨low, high⟩
    · exact entries j
  | stop => exact ⟨inRange, gathered_abortCal gathered, entries⟩
  | abort => exact ⟨inRange, gathered_abortCal gathered, entries⟩
  | lose => exact ⟨inRange, gathered_abortCal gathered, entries⟩
  | calibrate => exact ⟨inRange, CalRecord.gathered_default, entries⟩
  | completed strong ranged =>
    exact (completeCalibration_completed x _).settled settled (gathered_fedRecord gathered strong ranged)
  | timedOut strong ranged =>
    exact (calibrationTimesOut_completed x _).settled settled (gathered_fedRecord gathered strong ranged)
  | fed strong ranged => exact ⟨inRange, gathered_fedRecord gathered strong ranged, entries⟩
  | _ => exact ⟨inRange, gathered, entries⟩

theorem axis_default_settled : Axis.settled {} := by
  refine ⟨by decide, CalRecord.gathered_default, fun k => ?_⟩
  simp

/-! ### Samples on their way -/

/-- The samples on their way to the engines are raw 16-bit values. -/
def State.samplesRanged (s : State) : Prop := ∀ a : AxisId, ∀ m ∈ s.bus.samples[a], isS16 m.c ∧ isS16 m.s

theorem samplesRanged_congr {s t : State} (ranged : s.samplesRanged) (same : t.bus.samples = s.bus.samples) :
    t.samplesRanged := by
  rw [State.samplesRanged, same]
  exact ranged

theorem ReceiveStep.samplesRanged {s t : State} (act : ReceiveStep s t) (ranged : s.samplesRanged) :
    t.samplesRanged := by
  cases act with
  | samples a l new =>
    intro b m mem
    rw [State.modBus_bus, modifyAt_get] at mem
    split at mem
    next same =>
      subst same
      obtain old | arrived := List.mem_append.1 mem
      · exact ranged _ m old
      · exact new m arrived
    next => exact ranged b m mem
  | offer => rw [offerForward_state]; exact ranged
  | bad => rw [countBadFrame_state]; exact ranged
  | count => rw [countGoodFrame_state]; exact ranged
  | intake => rw [joinIntake_state]; exact ranged
  | _ => exact ranged

theorem samplesRanged_default : ∀ a : AxisId, ∀ m ∈ ({} : Bus).samples[a], isS16 m.c ∧ isS16 m.s := by
  simp

theorem exec_samplesRanged {i : Instr} {s t : State} (ranged : s.samplesRanged) (h : exec i s = .next t) :
    t.samplesRanged := by
  have received (b : List Byte) : (receive b s).samplesRanged :=
    (receive_receiveWork b s).keeps (P := State.samplesRanged) (fun _ _ => ReceiveStep.samplesRanged) ranged
  cases i
  case badFrame b | cycle b | assign b | sample b | marker b | environment b | manage b | forwardedFrame b =>
    cases h
    exact received b
  case sampleArrival a =>
    obtain ⟨samples, fewer, work⟩ := exec_sampleArrival h
    exact samplesRanged_congr (s := { s with bus := { s.bus with samples := samples } })
      (fun b m mem => ranged b m (fewer b mem)) (by simp [work.outside])
  case powerOn | pin | supplyDip => cases h; exact samplesRanged_default
  case fullRequest =>
    cases h
    split
    · exact samplesRanged_default
    · exact ranged
  case restart block =>
    exact execRestart_keeps (P := State.samplesRanged) block s t ranged
      (fun l => samplesRanged_congr ranged (by simp)) (fun _ _ h => h) (fun u h => samplesRanged_congr h (by simp))
      (fun r u h => samplesRanged_congr h (by simp [endRestart])) h
  case axisChainLoss a =>
    cases h
    split
    · exact chainLoss_keeps (P := State.samplesRanged) a (popLinkEvent a s) (samplesRanged_congr ranged (by simp))
        (samplesRanged_congr ranged (by simp))
    · exact ranged
  all_goals
    cases h
    repeat' split
    all_goals exact samplesRanged_congr ranged (by simp)

/-! ### Environment groups -/

/-- The values of one group lie within ±1,000,000 ppb. -/
def EnvGroup.legal (g : EnvGroup) : Prop := isExcess g.default_ ∧ isExcess g.applied ∧ isExcess g.lastValue

/-- R85: a value moved toward another one stays between values in range. -/
theorem isExcess_slewed {applied v : Int} (now : isExcess applied) (next : isExcess v) (slew : Nat) :
    isExcess (slewed slew applied v) := by
  unfold slewed isExcess at *
  split
  · exact next
  next beyond =>
    obtain ⟨-, far⟩ := not_or.1 beyond
    obtain positive | negative := lt_or_ge 0 (v - applied)
    · rw [abs_of_pos positive] at far
      rw [if_pos positive]
      omega
    · rw [abs_of_nonpos negative] at far
      rw [if_neg (not_lt.2 negative)]
      omega

theorem legal_modifyAt {v : Vector EnvGroup 4} (legal : ∀ g : GroupId, (v[g]).legal) (k : GroupId)
    (f : EnvGroup → EnvGroup) (kept : (f v[k]).legal) (g : GroupId) : ((modifyAt v k f)[g]).legal := by
  rw [modifyAt_get]
  split
  next same => subst same; exact kept
  next => exact legal g

theorem groupsLegal_congr {s t : State} (legal : s.groupsLegal) (same : t.scu.groups = s.scu.groups) :
    t.groupsLegal := by
  rw [State.groupsLegal, same]
  exact legal

theorem groupsLegal_takeEnvValue (m : EnvMsg) {s : State} (legal : s.groupsLegal) : (takeEnvValue m s).groupsLegal := by
  have groups : (takeEnvValue m s).scu.groups = modifyAt s.scu.groups m.group fun g => { g with
      lastValue := clamp (-indexLimit) indexLimit m.value, lastTime := s.cpt.observed
      applied := slewed (s.scu.groups[m.group]).slewLimit (s.scu.groups[m.group]).applied
        (clamp (-indexLimit) indexLimit m.value), stale := false } := by
    unfold takeEnvValue
    dsimp only
    split <;> split <;> rfl
  have value : isExcess (clamp (-indexLimit) indexLimit m.value) := clamp_mem (by decide) _
  intro g
  rw [groups]
  obtain ⟨default_, applied, -⟩ := legal m.group
  exact legal_modifyAt legal m.group _ ⟨default_, isExcess_slewed applied value _, value⟩ g

theorem groupsLegal_checkStale (time : Time) (g : GroupId) {s : State} (legal : s.groupsLegal) :
    (checkStale time s g).groupsLegal := by
  unfold checkStale
  dsimp only
  split
  · exact legal_modifyAt legal g _ (legal g)
  · exact legal

theorem groupsLegal_foldl_checkStale (time : Time) (l : List GroupId) {s : State} (legal : s.groupsLegal) :
    (l.foldl (checkStale time) s).groupsLegal := by
  induction l generalizing s with
  | nil => exact legal
  | cons g l ih => exact ih (groupsLegal_checkStale time g legal)

theorem groupsLegal_writeEnvgroup (r : Request) {s : State} (legal : s.groupsLegal) :
    (writeEnvgroup r s).state.groupsLegal := by
  unfold writeEnvgroup
  split
  · exact legal
  next g new found =>
    have default_ : isExcess new.default_ := by
      obtain ⟨-, -, spelled⟩ := entryOf_eq_some.1 found
      unfold groupSettingsOf at spelled
      dsimp only at spelled
      split at spelled
      next inRange =>
        cases spelled
        simp only [Machine.inRange, Bool.and_eq_true, decide_eq_true_iff] at inRange
        exact inRange.1.1
      next => cases spelled
    obtain ⟨-, applied, lastValue⟩ := legal g
    exact legal_modifyAt legal g _ ⟨default_, applied, lastValue⟩

theorem groupsLegal_serve {mine : Request → Bool} {owner : Request → State → Answer} {s : State} (legal : s.groupsLegal)
    (owns : ∀ r, (owner r s).state.groupsLegal) : (serve mine owner s).groupsLegal :=
  serve_cases (P := State.groupsLegal) legal fun r _ _ => groupsLegal_congr (owns r) (by simp [Answer.place])

theorem groupsLegal_foldl_restartBlock (l : List Block) {s : State} (legal : s.groupsLegal) :
    (l.foldl restartBlock s).groupsLegal := by
  induction l generalizing s with
  | nil => exact legal
  | cons b l ih =>
    refine ih ?_
    cases b with
    | scu =>
      intro g
      obtain ⟨default_, -⟩ := legal g
      simp only [restartBlock, State.modScu_scu, Fin.getElem_fin, Vector.getElem_map, restartGroup]
      exact ⟨default_, default_, default_⟩
    | _ => exact legal

theorem groupsLegal_default : ∀ g : GroupId, (({} : Scu).groups[g]).legal := by
  simp [EnvGroup.legal, isExcess]

@[simp] theorem writeComposite_groups (r : Request) (s : State) : (writeComposite r s).state.scu.groups = s.scu.groups := by
  unfold writeComposite
  (repeat' split) <;> rfl

theorem exec_groupsLegal {i : Instr} {s t : State} (legal : s.groupsLegal) (h : exec i s = .next t) : t.groupsLegal := by
  cases i
  case envValue =>
    cases h
    split
    · exact legal
    · exact groupsLegal_takeEnvValue _ (s := s.modBus _) legal
  case groupStale =>
    cases h
    split
    · exact legal
    · exact groupsLegal_foldl_checkStale _ _ (s := s.modBus _) legal
  case writeTableEnvgroup => cases h; exact groupsLegal_serve legal fun r => groupsLegal_writeEnvgroup r legal
  case powerOn | pin | supplyDip => cases h; exact groupsLegal_default
  case fullRequest =>
    cases h
    split
    · exact groupsLegal_default
    · exact legal
  case restart block =>
    exact execRestart_keeps (P := State.groupsLegal) block s t legal (fun l => groupsLegal_foldl_restartBlock l legal)
      (fun _ _ h => h) (fun u h => groupsLegal_congr h (by simp)) (fun r u h => groupsLegal_congr h (by simp [endRestart])) h
  case axisChainLoss a =>
    cases h
    split
    · exact chainLoss_keeps (P := State.groupsLegal) a (popLinkEvent a s) (groupsLegal_congr legal (by simp))
        (groupsLegal_congr legal (by simp))
    · exact legal
  case writeTableComposite =>
    cases h
    exact groupsLegal_serve legal fun r => groupsLegal_congr legal (by simp)
  all_goals
    cases h
    repeat' split
    all_goals exact groupsLegal_congr legal (by simp)

/-! ### Every command -/

theorem settingsLegal_iff (s : State) : s.settingsLegal ↔ (∀ a : AxisId, (s.axes[a]).settled) ∧ s.samplesRanged :=
  ⟨fun h => ⟨fun a => ⟨(h a).1, (h a).2.1, (h a).2.2.1⟩, fun a => (h a).2.2.2⟩,
    fun h a => ⟨(h.1 a).1, (h.1 a).2.1, (h.1 a).2.2, h.2 a⟩⟩

theorem exec_settingsLegal {i : Instr} {s t : State} (legal : s.settingsLegal) (h : exec i s = .next t) :
    t.settingsLegal := by
  obtain ⟨axes, ranged⟩ := (settingsLegal_iff s).1 legal
  exact (settingsLegal_iff t).2 ⟨exec_keeps_axes (P := Axis.settled) (fun _ _ => AxisMove.settled) axis_default_settled
    ranged axes h, exec_samplesRanged ranged h⟩

/-- Settles O5: each change of an axis keeps its tables in range, an installed calibration because its tests and the
extremes of the raw samples bound every coefficient; and SCU moves a group only between values in range. -/
theorem stepKeepsSettingsInRange : Obligations.StepKeepsSettingsInRange := by
  unfold Obligations.StepKeepsSettingsInRange
  exact ⟨fun s t legal h => step_keeps (P := State.settingsLegal) (fun _ _ h => h) (fun _ _ _ => exec_settingsLegal)
      legal h,
    fun s t legal h => step_keeps (P := State.groupsLegal) (fun _ _ h => h) (fun _ _ _ => exec_groupsLegal) legal h⟩

/-- Settles O11: each predicate that every step keeps holds of the values after reset. -/
theorem resetMeetsWhatStepsKeep : Obligations.ResetMeetsWhatStepsKeep := by
  unfold Obligations.ResetMeetsWhatStepsKeep
  have axes (a : AxisId) : State.reset.axes[a] = {} := by simp [State.reset]
  refine ⟨by decide, fun a => ?_, ?_, ?_, ?_, nofun, groupsLegal_default, logLegal_reset, nofun, ?_, fun a => ?_, ?_⟩
  · rw [axes]
    exact axis_default_legal
  · refine (settingsLegal_iff _).2 ⟨fun a => ?_, samplesRanged_default⟩
    rw [axes]
    exact axis_default_settled
  · exact ⟨nofun, nofun, nofun, nofun, nofun⟩
  · simp [State.sourcesUnique, State.reset]
  · exact fun _ => ⟨rfl, rfl, rfl, rfl, rfl, rfl⟩
  · rw [axes]
    exact axis_default_counted
  · simp [State.sourcesInRange, State.reset]

end Sys2Proof.Machine
end

section
/-! SUPPORT. The twelve tables' entries as bytes, read back and written (R180, R182, R184). -/

namespace Sys2Proof.Machine

/-! ### Fields put together and taken apart -/

theorem signedField_leInt_append {n : Nat} {z : Int} (b : List Byte) (positive : 0 < n)
    (low : -(2 ^ (8 * n - 1) : Int) ≤ z) (high : z < (2 ^ (8 * n - 1) : Int)) :
    signedField (leInt n z ++ b) 0 n = z := by
  rw [signedField_append_left (by simp), signedField_leInt positive low high]

theorem field_leInt_append (n : Nat) (z : Int) (b : List Byte) :
    field (leInt n z ++ b) 0 n = (z % 256 ^ n).toNat % 256 ^ n :=
  field_leBytes_append ..

/-- The fields of these sizes, read one after another from `off` on and written as bytes. -/
def fieldsFrom (b : List Byte) : Nat → List Nat → List Byte
  | _, [] => []
  | off, n :: ns => leBytes n (field b off n) ++ fieldsFrom b (off + n) ns

/-- Bytes are the fields that cover them. -/
theorem fieldsFrom_eq_drop {b : List Byte} {off : Nat} {sizes : List Nat} (covers : off + sizes.sum = b.length) :
    fieldsFrom b off sizes = b.drop off := by
  induction sizes generalizing off with
  | nil => exact (List.drop_eq_nil_of_le (by simpa using covers.ge)).symm
  | cons n ns ih =>
    rw [List.sum_cons] at covers
    rw [fieldsFrom, ih (by omega), leBytes_field_append (by omega)]

theorem fieldsFrom_eq {b : List Byte} {sizes : List Nat} (covers : b.length = sizes.sum) : fieldsFrom b 0 sizes = b :=
  fieldsFrom_eq_drop (by omega)

/-! ### Codes -/

@[simp] theorem toNat_flagByte (f : Bool) : (flagByte f).toNat = if f then 1 else 0 := by cases f <;> rfl

@[simp] theorem flagOf_ite (f : Bool) : flagOf (if f then 1 else 0) = some f := by cases f <;> rfl

theorem flagOf_eq_some {x : Nat} {f : Bool} : flagOf x = some f ↔ x = if f then 1 else 0 := by
  unfold flagOf
  constructor
  · intro h
    split at h
    · cases h; assumption
    · split at h
      · cases h; assumption
      · cases h
  · rintro rfl
    cases f <;> rfl

/-- A flag is the byte it was read from. -/
theorem flagByte_eq_leBytes {x : Nat} {f : Bool} (spelled : flagOf x = some f) : [flagByte f] = leBytes 1 x := by
  rw [flagOf_eq_some.1 spelled]
  cases f <;> rfl

theorem polarityAcceptOf_eq_some {x : Nat} {p : PolarityAccept} :
    polarityAcceptOf x = some p ↔ x = polarityAcceptCode p := by
  unfold polarityAcceptOf
  split <;> cases p <;> simp_all [polarityAcceptCode]

/-- The environment group byte of a setting. -/
def groupCode (g : Option GroupId) : Nat := g.elim 255 (·.val)

theorem groupOf_eq_some {x : Nat} {g : Option GroupId} : groupOf x = some g ↔ x = groupCode g := by
  unfold groupOf groupCode
  split
  next none =>
    subst none
    cases g with
    | none => simp
    | some g =>
      have := g.isLt
      simp
      omega
  next named =>
    cases g with
    | none => simpa using named
    | some g => simp [finOf_eq_some]

/-- A bit-vector byte is the byte it was read from. -/
theorem ofNat_eq_leBytes (x : Nat) : [BitVec.ofNat 8 x] = leBytes 1 x := rfl

/-! ### The tables without unused fields -/

theorem windowEntryOf_windowEntryBytes {w : WindowEntry} (inRange : w.inRange) :
    windowEntryOf (windowEntryBytes w) = some w := by
  obtain ⟨limit, zone, spacing⟩ := inRange
  have limits := (within48_iff _).1 limit
  have readLimit : signedField (windowEntryBytes w) 0 6 = w.limit := by
    simp only [windowEntryBytes, List.append_assoc]
    exact signedField_leInt_append _ (by decide) (by norm_num; omega) (by norm_num; omega)
  have reads : field (windowEntryBytes w) 6 1 = (if w.gap then 1 else 0) ∧ field (windowEntryBytes w) 7 1 = w.zone
      ∧ field (windowEntryBytes w) 8 1 = w.sources.toNat
      ∧ field (windowEntryBytes w) 9 1 = polarityAcceptCode w.polarity
      ∧ field (windowEntryBytes w) 10 4 = w.spacing := by
    have zoneByte : w.zone % 256 = w.zone := by omega
    have code : polarityAcceptCode w.polarity % 256 = polarityAcceptCode w.polarity := by cases w.polarity <;> rfl
    have spacingWord : w.spacing % 4294967296 = w.spacing := by omega
    refine ⟨?_, ?_, ?_, ?_, ?_⟩ <;>
      simp [windowEntryBytes, List.append_assoc, field_append_right, field_leBytes_append, field_leBytes,
        field_cons_zero, field_cons_succ,
        zoneByte, code, spacingWord]
  obtain ⟨gap, zoneRead, sources, polarity, spacingRead⟩ := reads
  unfold windowEntryOf
  rw [gap, polarity, flagOf_ite, polarityAcceptOf_eq_some.2 rfl, readLimit, zoneRead, sources, spacingRead]
  simp [limit, zone]

theorem windowEntryBytes_of_windowEntryOf {b : List Byte} {w : WindowEntry} (spelled : windowEntryOf b = some w) :
    w.inRange ∧ (b.length = 14 → windowEntryBytes w = b) := by
  unfold windowEntryOf at spelled
  split at spelled
  next gap polarity gapRead polarityRead =>
    split at spelled
    next legal =>
      cases spelled
      simp only [Bool.and_eq_true, decide_eq_true_iff] at legal
      refine ⟨⟨legal.1, legal.2, field_lt b 10 4⟩, fun length => ?_⟩
      refine Eq.trans ?_ (fieldsFrom_eq (sizes := [6, 1, 1, 1, 1, 4]) length)
      simp only [windowEntryBytes, fieldsFrom, List.append_assoc, List.append_nil, leInt_signedField,
        flagByte_eq_leBytes gapRead, ofNat_eq_leBytes, ← polarityAcceptOf_eq_some.1 polarityRead, Nat.reduceAdd]
    next => cases spelled
  next => cases spelled

theorem windowHeaderOf_windowHeaderBytes {h : WindowHeader} (inRange : h.inRange) :
    windowHeaderOf (windowHeaderBytes h) = some h := by
  obtain ⟨base, valid⟩ := inRange
  have limits := (within48_iff _).1 base
  have readBase : signedField (windowHeaderBytes h) 0 6 = h.base := by
    simp only [windowHeaderBytes, List.append_assoc]
    exact signedField_leInt_append _ (by decide) (by norm_num; omega) (by norm_num; omega)
  have reads : field (windowHeaderBytes h) 6 1 = h.valid ∧ field (windowHeaderBytes h) 7 1 = h.axis.val := by
    have validByte : h.valid % 256 = h.valid := by omega
    have axisByte : h.axis.val % 256 = h.axis.val := by omega
    refine ⟨?_, ?_⟩ <;>
      simp [windowHeaderBytes, List.append_assoc, field_append_right, field_leBytes_append, field_leBytes, validByte,
        axisByte]
  obtain ⟨validRead, axisRead⟩ := reads
  unfold windowHeaderOf
  rw [axisRead, finOf_val, readBase, validRead]
  simp [base, valid]

theorem windowHeaderBytes_of_windowHeaderOf {b : List Byte} {h : WindowHeader} (spelled : windowHeaderOf b = some h) :
    h.inRange ∧ (b.length = 8 → windowHeaderBytes h = b) := by
  unfold windowHeaderOf at spelled
  split at spelled
  next axis axisRead =>
    split at spelled
    next legal =>
      cases spelled
      simp only [Bool.and_eq_true, decide_eq_true_iff] at legal
      refine ⟨⟨legal.1, legal.2⟩, fun length => ?_⟩
      refine Eq.trans ?_ (fieldsFrom_eq (sizes := [6, 1, 1]) length)
      simp only [windowHeaderBytes, fieldsFrom, List.append_assoc, List.append_nil, leInt_signedField,
        ← finOf_eq_some.1 axisRead, Nat.reduceAdd]
    next => cases spelled
  next => cases spelled

theorem capMapOf_capMapBytes (e : CapMapEntry) : capMapOf (capMapBytes e) = some e := by
  have fits : e.mask.toNat < 1024 := e.mask.isLt
  have word : e.mask.toNat % 65536 = e.mask.toNat := by omega
  have reads : field (capMapBytes e) 0 2 = e.mask.toNat ∧ field (capMapBytes e) 2 1 = if e.gated then 1 else 0 := by
    refine ⟨?_, ?_⟩ <;> simp [capMapBytes, field_append_right, field_leBytes_append, word]
  obtain ⟨mask, gated⟩ := reads
  unfold capMapOf
  rw [gated, flagOf_ite, mask]
  simp [fits]

theorem capMapBytes_of_capMapOf {b : List Byte} {e : CapMapEntry} (spelled : capMapOf b = some e)
    (length : b.length = 3) : capMapBytes e = b := by
  unfold capMapOf at spelled
  split at spelled
  next gated gatedRead =>
    split at spelled
    next fits =>
      cases spelled
      have mask : (BitVec.ofNat 10 (field b 0 2)).toNat = field b 0 2 := Nat.mod_eq_of_lt fits
      refine Eq.trans ?_ (fieldsFrom_eq (sizes := [2, 1]) length)
      simp only [capMapBytes, fieldsFrom, List.append_nil, mask, flagByte_eq_leBytes gatedRead, Nat.reduceAdd]
    next => cases spelled
  next => cases spelled

theorem compareSlotOf_compareSlotBytes {c : CompareSlot} (fits : c.period < 4294967296) :
    compareSlotOf (compareSlotBytes c) = some c := by
  have word : c.period % 4294967296 = c.period := by omega
  have time : c.next.toNat % 281474976710656 = c.next.toNat := Nat.mod_eq_of_lt c.next.isLt
  have reads : field (compareSlotBytes c) 0 1 = (if c.enable then 1 else 0) ∧ timeField (compareSlotBytes c) 1 = c.next
      ∧ field (compareSlotBytes c) 7 4 = c.period := by
    refine ⟨?_, ?_, ?_⟩ <;>
      simp [compareSlotBytes, field_append_right, field_leBytes_append, field_leBytes,
        field_cons_zero, field_cons_succ, timeField, word, time]
  obtain ⟨enable, next, period⟩ := reads
  unfold compareSlotOf
  rw [enable, flagOf_ite, next, period]
  rfl

theorem compareSlotBytes_of_compareSlotOf {b : List Byte} {c : CompareSlot} (spelled : compareSlotOf b = some c) :
    c.period < 4294967296 ∧ (b.length = 11 → compareSlotBytes c = b) := by
  obtain ⟨enable, enableRead, rfl⟩ := Option.map_eq_some_iff.1 spelled
  refine ⟨field_lt b 7 4, fun length => ?_⟩
  refine Eq.trans ?_ (fieldsFrom_eq (sizes := [1, 6, 4]) length)
  simp only [compareSlotBytes, fieldsFrom, List.append_assoc, List.append_nil, toNat_timeField,
    flagByte_eq_leBytes enableRead, Nat.reduceAdd]

theorem routeOf_routeByte (r : Route) : routeOf [routeByte r] = some r := by
  obtain ⟨attention, halt, taint⟩ := r
  cases attention <;> cases halt <;> cases taint <;> decide

theorem routeByte_of_routeOf {b : List Byte} {r : Route} (spelled : routeOf b = some r) (length : b.length = 1) :
    [routeByte r] = b := by
  obtain ⟨x, rfl⟩ := List.length_eq_one_iff.1 length
  unfold routeOf at spelled
  rw [field_singleton] at spelled
  dsimp only at spelled
  split at spelled
  next fits =>
    cases spelled
    have small : ∀ n < 8, routeByte ⟨n.testBit 0, n.testBit 1, n.testBit 2⟩ = BitVec.ofNat 8 n := by decide
    rw [small _ fits, BitVec.ofNat_toNat, BitVec.setWidth_eq]
  next => cases spelled

theorem deliveryOf_deliveryBytes {d : Delivery} (inRange : d.inRange) : deliveryOf (deliveryBytes d) = some d := by
  obtain ⟨reader, least, most, interval⟩ := inRange
  have readerByte : d.reader % 256 = d.reader := by omega
  have watermarkByte : d.watermark % 256 = d.watermark := by omega
  have intervalWord : d.interval % 4294967296 = d.interval := by omega
  have reads : field (deliveryBytes d) 0 1 = (if d.pull then 1 else 0) ∧ field (deliveryBytes d) 1 1 = d.reader
      ∧ field (deliveryBytes d) 2 1 = d.watermark ∧ field (deliveryBytes d) 3 4 = d.interval
      ∧ field (deliveryBytes d) 7 1 = if d.dropOldest then 1 else 0 := by
    refine ⟨?_, ?_, ?_, ?_, ?_⟩ <;>
      simp [deliveryBytes, List.append_assoc, field_append_right, field_leBytes_append, field_cons_zero,
        field_cons_succ, readerByte, watermarkByte, intervalWord]
  obtain ⟨pull, readerRead, watermarkRead, intervalRead, drop⟩ := reads
  unfold deliveryOf
  rw [pull, drop, flagOf_ite, flagOf_ite, readerRead, watermarkRead, intervalRead]
  exact if_pos ⟨reader, least, most⟩

theorem deliveryBytes_of_deliveryOf {b : List Byte} {d : Delivery} (spelled : deliveryOf b = some d) :
    d.inRange ∧ (b.length = 8 → deliveryBytes d = b) := by
  unfold deliveryOf at spelled
  split at spelled
  next pull drop pullRead dropRead =>
    split at spelled
    next legal =>
      cases spelled
      obtain ⟨reader, least, most⟩ := legal
      refine ⟨⟨reader, least, most, field_lt b 3 4⟩, fun length => ?_⟩
      refine Eq.trans ?_ (fieldsFrom_eq (sizes := [1, 1, 1, 4, 1]) length)
      simp only [deliveryBytes, fieldsFrom, List.append_assoc, List.append_nil, flagByte_eq_leBytes pullRead,
        flagByte_eq_leBytes dropRead, Nat.reduceAdd]
    next => cases spelled
  next => cases spelled

theorem timingOf_timingBytes {timeout limit : Nat} (least : 1000 ≤ timeout) (most : timeout ≤ 1000000)
    (low : 50 ≤ limit) (high : limit ≤ 65535) : timingOf (timingBytes timeout limit) = some (timeout, limit) := by
  have timeoutWord : timeout % 4294967296 = timeout := by omega
  have limitWord : limit % 65536 = limit := by omega
  have reads : field (timingBytes timeout limit) 0 4 = timeout ∧ field (timingBytes timeout limit) 4 2 = limit := by
    refine ⟨?_, ?_⟩ <;>
      simp [timingBytes, field_append_right, field_leBytes_append, field_leBytes, timeoutWord, limitWord]
  obtain ⟨timeoutRead, limitRead⟩ := reads
  unfold timingOf
  rw [timeoutRead, limitRead]
  exact if_pos ⟨least, most, low⟩

theorem timingBytes_of_timingOf {b : List Byte} {timeout limit : Nat} (spelled : timingOf b = some (timeout, limit)) :
    1000 ≤ timeout ∧ timeout ≤ 1000000 ∧ 50 ≤ limit ∧ limit ≤ 65535
      ∧ (b.length = 6 → timingBytes timeout limit = b) := by
  unfold timingOf at spelled
  split at spelled
  next legal =>
    cases spelled
    obtain ⟨least, most, low⟩ := legal
    refine ⟨least, most, low, Nat.le_of_lt_succ (field_lt b 4 2), fun length => ?_⟩
    refine Eq.trans ?_ (fieldsFrom_eq (sizes := [4, 2]) length)
    simp only [timingBytes, fieldsFrom, List.append_nil, Nat.reduceAdd]
  next => cases spelled

theorem selectionOf_leBytes {e : Nat} (defined : e ≤ 27) : selectionOf (leBytes 1 e) = some e := by
  have byte : e % 256 = e := by omega
  simp [selectionOf, field_leBytes, byte, defined]

theorem leBytes_of_selectionOf {b : List Byte} {e : Nat} (spelled : selectionOf b = some e) :
    e ≤ 27 ∧ (b.length = 1 → leBytes 1 e = b) := by
  unfold selectionOf at spelled
  split at spelled
  next defined =>
    cases spelled
    refine ⟨defined, fun length => ?_⟩
    refine Eq.trans ?_ (fieldsFrom_eq (sizes := [1]) length)
    simp only [fieldsFrom, List.append_nil]
  next => cases spelled

/-! ### ENVGROUP, the Axis Table -/

theorem take_groupBytes (g : EnvGroup) :
    (groupBytes g).take 12 = leInt 4 g.default_ ++ (leBytes 4 g.slewLimit ++ leBytes 4 g.staleLimit) := by
  simp only [groupBytes, List.append_assoc]
  rw [← List.append_assoc (leBytes 4 g.slewLimit), ← List.append_assoc (leInt 4 g.default_)]
  exact List.take_left' (by simp)

theorem groupSettingsOf_take_groupBytes {g : EnvGroup} (default_ : isExcess g.default_) (slew : g.slewLimit ≤ 1000000)
    (least : 1000000 ≤ g.staleLimit) (most : g.staleLimit < 4294967296) :
    groupSettingsOf ((groupBytes g).take 12) = some ⟨g.default_, g.slewLimit, g.staleLimit⟩ := by
  obtain ⟨low, high⟩ := default_
  have slewWord : g.slewLimit % 4294967296 = g.slewLimit := by omega
  have staleWord : g.staleLimit % 4294967296 = g.staleLimit := by omega
  have readDefault : signedField ((groupBytes g).take 12) 0 4 = g.default_ := by
    rw [take_groupBytes]
    exact signedField_leInt_append _ (by decide) (by norm_num; omega) (by norm_num; omega)
  have reads : field ((groupBytes g).take 12) 4 4 = g.slewLimit ∧ field ((groupBytes g).take 12) 8 4 = g.staleLimit := by
    rw [take_groupBytes]
    refine ⟨?_, ?_⟩ <;>
      simp [field_append_right, field_leBytes_append, field_leBytes, slewWord, staleWord]
  obtain ⟨slewRead, staleRead⟩ := reads
  unfold groupSettingsOf
  rw [readDefault, slewRead, staleRead]
  simp [Machine.inRange, low, high, slew, least]

theorem groupSettings_of_groupSettingsOf {b : List Byte} {g : GroupSettings} (spelled : groupSettingsOf b = some g) :
    isExcess g.default_ ∧ g.slewLimit ≤ 1000000 ∧ 1000000 ≤ g.staleLimit ∧ g.staleLimit < 4294967296
      ∧ (b.length = 12 → leInt 4 g.default_ ++ leBytes 4 g.slewLimit ++ leBytes 4 g.staleLimit = b) := by
  unfold groupSettingsOf at spelled
  dsimp only at spelled
  split at spelled
  next legal =>
    cases spelled
    simp only [Machine.inRange, Bool.and_eq_true, decide_eq_true_iff] at legal
    obtain ⟨⟨default_, slew⟩, least⟩ := legal
    refine ⟨default_, slew, least, field_lt b 8 4, fun length => ?_⟩
    refine Eq.trans ?_ (fieldsFrom_eq (sizes := [4, 4, 4]) length)
    simp only [fieldsFrom, List.append_assoc, List.append_nil, leInt_signedField, Nat.reduceAdd]
  next => cases spelled

/-- The 43 bytes of an AXIS entry, one field after another. -/
theorem axisSettingsBytes_eq (x : AxisSettings) :
    axisSettingsBytes x = [flagByte x.enable] ++ (leInt 2 x.oC ++ (leInt 2 x.oS ++ (leInt 2 x.gain
      ++ (leInt 2 x.ks ++ (leInt 2 x.kc ++ (leBytes 2 x.wLo ++ (leBytes 2 x.wHi ++ (leBytes 4 x.fVac
      ++ ([flagByte x.negative] ++ (leBytes 1 (groupCode x.group) ++ (leBytes 2 x.deadPath ++ (leInt 6 x.refPosition
      ++ (leBytes 2 x.slipLimit ++ (leBytes 1 x.gapLimit ++ (leBytes 2 x.decayInterval ++ (leBytes 1 x.bucketThreshold
      ++ (leBytes 4 x.overspeedThreshold ++ leBytes 4 x.silenceLimit))))))))))))))))) := by
  cases group : x.group <;> simp only [axisSettingsBytes, group, groupCode, Option.elim, List.append_assoc]

theorem axisSettingsOf_axisSettingsBytes {x : AxisSettings} (legal : settingsInRange x = true) :
    axisSettingsOf (axisSettingsBytes x) = some x := by
  have ranges := legal
  simp only [settingsInRange, Machine.inRange, Bool.and_eq_true, decide_eq_true_iff, within48_iff, and_assoc] at ranges
  have bytes : x.wLo % 65536 = x.wLo ∧ x.wHi % 65536 = x.wHi ∧ x.fVac % 4294967296 = x.fVac
      ∧ x.deadPath % 65536 = x.deadPath ∧ x.slipLimit % 65536 = x.slipLimit ∧ x.gapLimit % 256 = x.gapLimit
      ∧ x.decayInterval % 65536 = x.decayInterval ∧ x.bucketThreshold % 256 = x.bucketThreshold
      ∧ x.overspeedThreshold % 4294967296 = x.overspeedThreshold
      ∧ x.silenceLimit % 4294967296 = x.silenceLimit := by omega
  have gainWord : (((x.gain % 65536).toNat % 65536 : Nat) : Int) = x.gain := by omega
  have secantWord : (((x.kc % 65536).toNat % 65536 : Nat) : Int) = x.kc := by omega
  have groupByte : groupCode x.group % 256 = groupCode x.group := by
    cases x.group with
    | none => rfl
    | some g => exact Nat.mod_eq_of_lt (g.isLt.trans (by decide))
  obtain ⟨wLo, wHi, fVac, deadPath, slipLimit, gapLimit, decayInterval, bucketThreshold, overspeed, silence⟩ := bytes
  have offsetC : signedField (axisSettingsBytes x) 1 2 = x.oC := by
    rw [axisSettingsBytes_eq, signedField_append_right (by simp)]
    exact signedField_leInt_append _ (by decide) (by norm_num; omega) (by norm_num; omega)
  have offsetS : signedField (axisSettingsBytes x) 3 2 = x.oS := by
    rw [axisSettingsBytes_eq]
    iterate 2 rw [signedField_append_right (by simp)]
    exact signedField_leInt_append _ (by decide) (by norm_num; omega) (by norm_num; omega)
  have sine : signedField (axisSettingsBytes x) 7 2 = x.ks := by
    rw [axisSettingsBytes_eq]
    iterate 4 rw [signedField_append_right (by simp)]
    exact signedField_leInt_append _ (by decide) (by norm_num; omega) (by norm_num; omega)
  have position : signedField (axisSettingsBytes x) 23 6 = x.refPosition := by
    rw [axisSettingsBytes_eq]
    iterate 12 rw [signedField_append_right (by simp)]
    exact signedField_leInt_append _ (by decide) (by norm_num; omega) (by norm_num; omega)
  have reads : field (axisSettingsBytes x) 0 1 = (if x.enable then 1 else 0)
      ∧ field (axisSettingsBytes x) 19 1 = (if x.negative then 1 else 0)
      ∧ field (axisSettingsBytes x) 20 1 = groupCode x.group
      ∧ (field (axisSettingsBytes x) 5 2 : Int) = x.gain ∧ (field (axisSettingsBytes x) 9 2 : Int) = x.kc
      ∧ field (axisSettingsBytes x) 11 2 = x.wLo ∧ field (axisSettingsBytes x) 13 2 = x.wHi
      ∧ field (axisSettingsBytes x) 15 4 = x.fVac ∧ field (axisSettingsBytes x) 21 2 = x.deadPath
      ∧ field (axisSettingsBytes x) 29 2 = x.slipLimit ∧ field (axisSettingsBytes x) 31 1 = x.gapLimit
      ∧ field (axisSettingsBytes x) 32 2 = x.decayInterval ∧ field (axisSettingsBytes x) 34 1 = x.bucketThreshold
      ∧ field (axisSettingsBytes x) 35 4 = x.overspeedThreshold
      ∧ field (axisSettingsBytes x) 39 4 = x.silenceLimit := by
    rw [axisSettingsBytes_eq]
    refine ⟨?_, ?_, ?_, ?_, ?_, ?_, ?_, ?_, ?_, ?_, ?_, ?_, ?_, ?_, ?_⟩ <;>
      simp [field_append_right, field_leBytes_append, field_leBytes, field_leInt_append, field_cons_zero,
        field_cons_succ, wLo, wHi, fVac, deadPath, slipLimit, gapLimit, decayInterval, bucketThreshold, overspeed,
        silence, groupByte, gainWord, secantWord, -Int.natCast_emod]
  unfold axisSettingsOf
  simp only [reads, offsetC, offsetS, sine, position, flagOf_ite, groupOf_eq_some.2 rfl]
  exact if_pos legal

/-- A value that fits is written by its bytes, signed or not. -/
theorem leInt_natCast {n v : Nat} (fits : v < 256 ^ n) : leInt n v = leBytes n v := by
  have same : ((v : Int) % 256 ^ n).toNat = v := by
    have bound : (v : Int) < 256 ^ n := by exact_mod_cast fits
    rw [Int.emod_eq_of_lt (Int.natCast_nonneg v) bound, Int.toNat_natCast]
  rw [leInt, same]

theorem axisSettingsBytes_of_axisSettingsOf {b : List Byte} {x : AxisSettings} (spelled : axisSettingsOf b = some x)
    (length : b.length = 43) : axisSettingsBytes x = b := by
  unfold axisSettingsOf at spelled
  split at spelled
  next enable negative group enableRead negativeRead groupRead =>
    dsimp only at spelled
    split at spelled
    next legal =>
      cases spelled
      refine Eq.trans ?_
        (fieldsFrom_eq (sizes := [1, 2, 2, 2, 2, 2, 2, 2, 4, 1, 1, 2, 6, 2, 1, 2, 1, 4, 4]) length)
      simp only [axisSettingsBytes_eq, fieldsFrom, List.append_nil, leInt_signedField, leInt_natCast (field_lt b _ 2),
        flagByte_eq_leBytes enableRead, flagByte_eq_leBytes negativeRead, ← groupOf_eq_some.1 groupRead, Nat.reduceAdd]
    next => cases spelled
  next => cases spelled

/-! ### The Composite Table and the Source Table -/

theorem compositeOf_compositeBytes {e : CompositeEntry} (inRange : e.inRange) :
    compositeOf (compositeBytes e) = some e := by
  cases e with
  | unused => rfl
  | weighted a b wa wb fallback =>
    obtain ⟨aLow, aHigh, bLow, bHigh⟩ := inRange
    have shape : compositeBytes (.weighted a b wa wb fallback) = [1#8] ++ (leBytes 1 a.val ++ (leBytes 1 b.val
        ++ (leInt 4 wa ++ (leInt 4 wb ++ (leBytes 2 0 ++ [flagByte fallback]))))) := by
      simp only [compositeBytes, List.append_assoc]
    have first : a.val % 256 = a.val := by omega
    have second : b.val % 256 = b.val := by omega
    have weightA : signedField (compositeBytes (.weighted a b wa wb fallback)) 3 4 = wa := by
      rw [shape]
      iterate 3 rw [signedField_append_right (by simp)]
      exact signedField_leInt_append _ (by decide) (by norm_num; omega) (by norm_num; omega)
    have weightB : signedField (compositeBytes (.weighted a b wa wb fallback)) 7 4 = wb := by
      rw [shape]
      iterate 4 rw [signedField_append_right (by simp)]
      exact signedField_leInt_append _ (by decide) (by norm_num; omega) (by norm_num; omega)
    have reads : field (compositeBytes (.weighted a b wa wb fallback)) 0 1 = 1
        ∧ field (compositeBytes (.weighted a b wa wb fallback)) 1 1 = a.val
        ∧ field (compositeBytes (.weighted a b wa wb fallback)) 2 1 = b.val
        ∧ field (compositeBytes (.weighted a b wa wb fallback)) 13 1 = if fallback then 1 else 0 := by
      rw [shape]
      refine ⟨?_, ?_, ?_, ?_⟩ <;>
        simp [field_append_right, field_leBytes_append, field_cons_zero, field_cons_succ, first, second]
    obtain ⟨code, aRead, bRead, back⟩ := reads
    unfold compositeOf
    rw [code]
    dsimp only
    rw [aRead, bRead, back, finOf_val, finOf_val, flagOf_ite, weightA, weightB]
    simp [Machine.inRange, aLow, aHigh, bLow, bHigh]
  | diffRatio a b sep =>
    obtain ⟨least, most⟩ := inRange
    have first : a.val % 256 = a.val := by omega
    have second : b.val % 256 = b.val := by omega
    have word : sep % 65536 = sep := by omega
    have reads : field (compositeBytes (.diffRatio a b sep)) 0 1 = 2
        ∧ field (compositeBytes (.diffRatio a b sep)) 1 1 = a.val
        ∧ field (compositeBytes (.diffRatio a b sep)) 2 1 = b.val
        ∧ field (compositeBytes (.diffRatio a b sep)) 11 2 = sep := by
      refine ⟨?_, ?_, ?_, ?_⟩ <;>
        simp [compositeBytes, field_append_right, field_leBytes_append, field_cons_zero, field_cons_succ, first, second,
          word]
    obtain ⟨code, aRead, bRead, separation⟩ := reads
    unfold compositeOf
    rw [code]
    dsimp only
    rw [aRead, bRead, finOf_val, finOf_val, separation]
    exact if_pos least

/-- R93, R94: what a write of a composite says. -/
theorem compositeOf_eq_some {b : List Byte} {e : CompositeEntry} : compositeOf b = some e →
    e.inRange ∧ match e with
      | .unused => field b 0 1 = 0
      | .weighted x y wa wb back => field b 0 1 = 1 ∧ field b 1 1 = x.val ∧ field b 2 1 = y.val
          ∧ signedField b 3 4 = wa ∧ signedField b 7 4 = wb ∧ field b 13 1 = if back then 1 else 0
      | .diffRatio x y sep => field b 0 1 = 2 ∧ field b 1 1 = x.val ∧ field b 2 1 = y.val ∧ field b 11 2 = sep := by
  intro spelled
  unfold compositeOf at spelled
  split at spelled
  next code =>
    cases spelled
    exact ⟨trivial, code⟩
  next code =>
    split at spelled
    next x y back xRead yRead backRead =>
      dsimp only at spelled
      split at spelled
      next legal =>
        cases spelled
        simp only [Machine.inRange, Bool.and_eq_true, decide_eq_true_iff, and_assoc] at legal
        exact ⟨legal, code, finOf_eq_some.1 xRead, finOf_eq_some.1 yRead, rfl, rfl, flagOf_eq_some.1 backRead⟩
      next => cases spelled
    next => cases spelled
  next code =>
    split at spelled
    next x y xRead yRead =>
      split at spelled
      next least =>
        cases spelled
        exact ⟨⟨least, Nat.le_of_lt_succ (field_lt b 11 2)⟩, code, finOf_eq_some.1 xRead, finOf_eq_some.1 yRead, rfl⟩
      next => cases spelled
    next => cases spelled
  next => cases spelled

/-- R24: the bytes 1 and 5 to 9 of a SOURCE entry, by its kind. -/
def kindFields : SourceKind → Nat × Nat × Nat × Nat × Nat
  | .samplePair a p => (0, a.val, 0, 0, p)
  | .marker m none => (1, m.val, 0, 0, 0)
  | .marker m (some a) => (1, m.val, 1, a.val, 0)
  | .environment => (2, 0, 0, 0, 0)

theorem sourceBytes_some (x : SourceEntry) : sourceBytes (some x) =
    [1#8] ++ (leBytes 1 (kindFields x.kind).1 ++ (leBytes 1 x.station ++ (leBytes 1 x.channel ++ ([flagByte x.forward]
      ++ (leBytes 1 (kindFields x.kind).2.1 ++ (leBytes 1 (kindFields x.kind).2.2.1
      ++ (leBytes 1 (kindFields x.kind).2.2.2.1 ++ leBytes 2 (kindFields x.kind).2.2.2.2))))))) := by
  cases kind : x.kind with
  | marker m a => cases a <;> simp only [sourceBytes, kind, kindFields, List.append_assoc]
  | _ => simp only [sourceBytes, kind, kindFields, List.append_assoc]

theorem sourceOf_sourceBytes {e : Option SourceEntry} (inRange : ∀ x ∈ e, x.inRange) :
    sourceOf (sourceBytes e) = some e := by
  cases e with
  | none => rfl
  | some x =>
    obtain ⟨stationLow, stationHigh, byKind⟩ := inRange x rfl
    have channelLow : x.channel ≤ 255 := by
      cases kind : x.kind <;> rw [kind] at byKind <;> dsimp only at byKind <;> omega
    have station : x.station % 256 = x.station := by omega
    have channel : x.channel % 256 = x.channel := by omega
    have reads : field (sourceBytes (some x)) 0 1 = 1 ∧ field (sourceBytes (some x)) 1 1 = (kindFields x.kind).1 % 256
        ∧ field (sourceBytes (some x)) 2 1 = x.station ∧ field (sourceBytes (some x)) 3 1 = x.channel
        ∧ field (sourceBytes (some x)) 4 1 = (if x.forward then 1 else 0)
        ∧ field (sourceBytes (some x)) 5 1 = (kindFields x.kind).2.1 % 256
        ∧ field (sourceBytes (some x)) 6 1 = (kindFields x.kind).2.2.1 % 256
        ∧ field (sourceBytes (some x)) 7 1 = (kindFields x.kind).2.2.2.1 % 256
        ∧ field (sourceBytes (some x)) 8 2 = (kindFields x.kind).2.2.2.2 % 65536 := by
      rw [sourceBytes_some]
      refine ⟨?_, ?_, ?_, ?_, ?_, ?_, ?_, ?_, ?_⟩ <;>
        simp [field_append_right, field_leBytes_append, field_leBytes,
        field_cons_zero, field_cons_succ, station, channel]
    obtain ⟨valid, kindRead, stationRead, channelRead, forwardRead, five, six, seven, eight⟩ := reads
    have kind : sourceKindOf (sourceBytes (some x)) = some x.kind := by
      rw [sourceKindOf_eq_some]
      cases isKind : x.kind with
      | samplePair a period =>
        rw [isKind] at byKind kindRead five eight
        obtain ⟨low, least, most⟩ := byKind
        have axis : a.val % 256 = a.val := by omega
        have word : period % 65536 = period := by omega
        exact ⟨kindRead, five.trans axis, eight.trans word, channelRead ▸ low, least, most⟩
      | marker m reference =>
        rw [isKind] at byKind kindRead five six seven
        have source : m.val % 256 = m.val := by omega
        cases reference with
        | none => exact ⟨kindRead, five.trans source, six, channelRead ▸ byKind⟩
        | some a =>
          have axis : a.val % 256 = a.val := by omega
          exact ⟨kindRead, five.trans source, six, seven.trans axis, channelRead ▸ byKind⟩
      | environment =>
        rw [isKind] at byKind kindRead
        exact ⟨kindRead, channelRead.trans byKind⟩
    unfold sourceOf
    rw [valid, kind, forwardRead, flagOf_ite, stationRead, channelRead]
    exact if_pos ⟨stationLow, stationHigh⟩

/-- R24, R25: what a write of a valid entry says. -/
theorem fields_of_sourceOf {b : List Byte} {x : SourceEntry} (spelled : sourceOf b = some (some x)) :
    field b 2 1 = x.station ∧ field b 3 1 = x.channel ∧ field b 4 1 = (if x.forward then 1 else 0)
      ∧ match x.kind with
        | .samplePair a period => field b 1 1 = 0 ∧ field b 5 1 = a.val ∧ field b 8 2 = period
        | .marker m none => field b 1 1 = 1 ∧ field b 5 1 = m.val ∧ field b 6 1 = 0
        | .marker m (some a) => field b 1 1 = 1 ∧ field b 5 1 = m.val ∧ field b 6 1 = 1 ∧ field b 7 1 = a.val
        | .environment => field b 1 1 = 2 := by
  obtain ⟨-, kind, forward, -, -, station, channel⟩ := sourceOf_eq_some_some spelled
  refine ⟨station.symm, channel.symm, flagOf_eq_some.1 forward, ?_⟩
  have fields := sourceKindOf_eq_some.1 kind
  cases isKind : x.kind with
  | samplePair a period =>
    rw [isKind] at fields
    obtain ⟨code, axis, periodIs, -⟩ := fields
    exact ⟨code, axis, periodIs⟩
  | marker m reference =>
    rw [isKind] at fields
    cases reference with
    | none =>
      obtain ⟨code, source, role, -⟩ := fields
      exact ⟨code, source, role⟩
    | some a =>
      obtain ⟨code, source, role, axis, -⟩ := fields
      exact ⟨code, source, role, axis⟩
  | environment =>
    rw [isKind] at fields
    exact fields.1

/-- R25: the valid byte of an accepted SOURCE entry. -/
theorem valid_of_sourceOf {b : List Byte} {e : Option SourceEntry} (spelled : sourceOf b = some e) :
    field b 0 1 = if e.isSome then 1 else 0 := by
  cases e with
  | some x =>
    obtain ⟨valid, -⟩ := sourceOf_eq_some_some spelled
    exact flagOf_eq_some.1 valid
  | none =>
    unfold sourceOf at spelled
    split at spelled
    · cases spelled
    next empty => exact flagOf_eq_some.1 empty
    · split at spelled
      · split at spelled <;> cases spelled
      · cases spelled

/-- Settles O12: a read puts an entry's fields one after another, each of the size a write takes it from; an accepted
write's fields cover its bytes. -/
theorem tableEntriesReadBackAsWritten : Obligations.TableEntriesReadBackAsWritten := by
  unfold Obligations.TableEntriesReadBackAsWritten
  refine ⟨⟨fun e h => ⟨sourceOf_sourceBytes h, length_sourceBytes e⟩,
    fun x h => ⟨axisSettingsOf_axisSettingsBytes h, length_axisSettingsBytes x⟩,
    fun e h => ⟨compositeOf_compositeBytes h, length_compositeBytes e⟩,
    fun g default_ slew least most => ⟨groupSettingsOf_take_groupBytes default_ slew least most, length_groupBytes g⟩,
    fun w h => ⟨windowEntryOf_windowEntryBytes h, length_windowEntryBytes w⟩,
    fun h inRange => ⟨windowHeaderOf_windowHeaderBytes inRange, length_windowHeaderBytes h⟩,
    fun e => ⟨capMapOf_capMapBytes e, length_capMapBytes e⟩,
    fun c h => ⟨compareSlotOf_compareSlotBytes h, length_compareSlotBytes c⟩, routeOf_routeByte,
    fun d h => ⟨deliveryOf_deliveryBytes h, length_deliveryBytes d⟩,
    fun timeout limit least most low high => ⟨timingOf_timingBytes least most low high, length_timingBytes timeout limit⟩,
    fun z low high => ⟨signedField_leInt (by decide) (by norm_num; omega) (by norm_num; omega), length_leInt 1 z⟩,
    fun e h => ⟨selectionOf_leBytes h, length_leBytes 1 e⟩⟩, fun b => ⟨fun e => valid_of_sourceOf, fun x spelled => ?_,
    fun e => compositeOf_eq_some⟩, fun b => ⟨fun x spelled => ?_, fun g => groupSettings_of_groupSettingsOf,
    fun w => windowEntryBytes_of_windowEntryOf, fun h => windowHeaderBytes_of_windowHeaderOf,
    fun e => capMapBytes_of_capMapOf, fun c => compareSlotBytes_of_compareSlotOf, fun r => routeByte_of_routeOf,
    fun d => deliveryBytes_of_deliveryOf, fun timeout limit => timingBytes_of_timingOf,
    fun e => leBytes_of_selectionOf, ?_⟩⟩
  · exact ⟨sourceOf_inRange spelled, fields_of_sourceOf spelled⟩
  · exact ⟨settingsInRange_of_axisSettingsOf spelled, axisSettingsBytes_of_axisSettingsOf spelled⟩
  · have range := signedField_mem b 0 (show 0 < 1 from Nat.one_pos)
    omega

end Sys2Proof.Machine
end

section
/-! SUPPORT. Stages 1 to 3 of a sample (R40 to R47), and the scale of a position (R82, R83, R89, R90). -/

namespace Sys2Proof.Machine

/-! ### Limits -/

theorem clamp_eq {lo hi : Int} (h : lo ≤ hi) (x : Int) : clamp lo hi x = max lo (min hi x) := by
  unfold clamp
  split
  · omega
  · split <;> omega

theorem saturate_eq (x : Int) : saturate x = max (-140737488355327) (min 140737488355327 x) :=
  clamp_eq (by decide) x

/-! ### The whole units of an angle -/

/-- Which rotations fit an angle depends on the direction only. -/
theorem wholeUnits_scale (l : List (Nat × Int × Int)) {n : Int} (positive : 0 < n) (x y : Int) :
    wholeUnits l (n * x) (n * y) = wholeUnits l x y := by
  induction l generalizing x y with
  | nil => rfl
  | cons r l ih =>
    obtain ⟨m, c, s⟩ := r
    have side : n * y * c - n * x * s = n * (y * c - x * s) := by ring
    have forward : n * x * c + n * y * s = n * (x * c + y * s) := by ring
    simp only [wholeUnits, side, forward, ih, mul_nonneg_iff_of_pos_left positive]

/-- The four quarters of the plane, each turned back into the first. -/
theorem unitsOfAngle_first {x y : Int} (hx : 0 < x) (hy : 0 ≤ y) : unitsOfAngle x y = wholeUnits unitRotations x y := by
  have notHalf : ¬(y < 0 ∨ (y = 0 ∧ x < 0)) := by omega
  simp [unitsOfAngle, if_neg notHalf, not_le.2 hx]

theorem unitsOfAngle_second {x y : Int} (hx : x ≤ 0) (hy : 0 < y) :
    unitsOfAngle x y = 1024 + wholeUnits unitRotations y (-x) := by
  have notHalf : ¬(y < 0 ∨ (y = 0 ∧ x < 0)) := by omega
  simp [unitsOfAngle, if_neg notHalf, hx]

theorem unitsOfAngle_third {x y : Int} (hx : x < 0) (hy : y ≤ 0) :
    unitsOfAngle x y = 2048 + wholeUnits unitRotations (-x) (-y) := by
  have half : y < 0 ∨ (y = 0 ∧ x < 0) := by omega
  rw [unitsOfAngle, if_pos half]
  simp [not_le.2 hx]

theorem unitsOfAngle_fourth {x y : Int} (hx : 0 ≤ x) (hy : y < 0) :
    unitsOfAngle x y = 3072 + wholeUnits unitRotations (-y) x := by
  have half : y < 0 ∨ (y = 0 ∧ x < 0) := by omega
  rw [unitsOfAngle, if_pos half]
  simp [hx]

/-- A quarter turn takes each quarter of the plane to the next. -/
theorem unitsOfAngle_quarter {x y : Int} (nonzero : ¬(x = 0 ∧ y = 0)) :
    unitsOfAngle (-y) x % 4096 = (unitsOfAngle x y + 1024) % 4096 := by
  obtain ⟨hx, hy⟩ | ⟨hx, hy⟩ | ⟨hx, hy⟩ | ⟨hx, hy⟩ :
      (0 < x ∧ 0 ≤ y) ∨ (x ≤ 0 ∧ 0 < y) ∨ (x < 0 ∧ y ≤ 0) ∨ (0 ≤ x ∧ y < 0) := by omega
  · rw [unitsOfAngle_first hx hy, unitsOfAngle_second (by omega) hx, neg_neg, Nat.add_comm]
  · rw [unitsOfAngle_second hx hy, unitsOfAngle_third (by omega) hx, neg_neg]
    omega
  · rw [unitsOfAngle_third hx hy, unitsOfAngle_fourth (by omega) hx]
    omega
  · rw [unitsOfAngle_fourth hx hy, unitsOfAngle_first (by omega) hx]
    omega

theorem unitsOfAngle_scale {n : Int} (positive : 0 < n) (x y : Int) :
    unitsOfAngle (n * x) (n * y) = unitsOfAngle x y := by
  have negX : n * x < 0 ↔ x < 0 := by rw [← not_le, mul_nonneg_iff_of_pos_left positive, not_le]
  have negY : n * y < 0 ↔ y < 0 := by rw [← not_le, mul_nonneg_iff_of_pos_left positive, not_le]
  have zeroY : n * y = 0 ↔ y = 0 := by rw [mul_eq_zero, or_iff_right positive.ne']
  have turnedX : -(n * x) = n * -x := by ring
  have turnedY : -(n * y) = n * -y := by ring
  have nonpos (z : Int) : n * z ≤ 0 ↔ z ≤ 0 := by
    rw [← not_lt, ← not_lt, mul_pos_iff_of_pos_left positive]
  unfold unitsOfAngle
  simp only [negX, negY, zeroY, turnedX, turnedY]
  split <;> dsimp only <;> simp only [nonpos] <;> split <;> dsimp only
  all_goals simp only [← mul_neg, wholeUnits_scale _ positive]

/-! ### The phase -/

/-- Turning a pair by half a unit leaves (0, 0) alone there. -/
theorem halfTurn_ne_zero {u v : Int} (nonzero : ¬(u = 0 ∧ v = 0)) :
    ¬(u * halfUnit.1 - v * halfUnit.2 = 0 ∧ u * halfUnit.2 + v * halfUnit.1 = 0) := by
  rintro ⟨real, imaginary⟩
  have length : (u * u + v * v) * (halfUnit.1 * halfUnit.1 + halfUnit.2 * halfUnit.2) = 0 := by
    linear_combination (u * halfUnit.1 - v * halfUnit.2) * real + (u * halfUnit.2 + v * halfUnit.1) * imaginary
  have unit : halfUnit.1 * halfUnit.1 + halfUnit.2 * halfUnit.2 ≠ 0 := by decide
  have none : u * u + v * v = 0 := (mul_eq_zero.1 length).resolve_right unit
  exact nonzero (mul_self_add_mul_self_eq_zero.1 none)

theorem phase_scale {n : Int} (positive : 0 < n) (u v : Int) : phase (n * u) (n * v) = phase u v := by
  have real : n * u * halfUnit.1 - n * v * halfUnit.2 = n * (u * halfUnit.1 - v * halfUnit.2) := by ring
  have imaginary : n * u * halfUnit.2 + n * v * halfUnit.1 = n * (u * halfUnit.2 + v * halfUnit.1) := by ring
  rw [phase, real, imaginary, unitsOfAngle_scale positive, phase]

theorem phase_quarter {u v : Int} (nonzero : ¬(u = 0 ∧ v = 0)) : phase (-v) u = (phase u v + 1024) % 4096 := by
  have real : -v * halfUnit.1 - u * halfUnit.2 = -(u * halfUnit.2 + v * halfUnit.1) := by ring
  have imaginary : -v * halfUnit.2 + u * halfUnit.1 = u * halfUnit.1 - v * halfUnit.2 := by ring
  rw [phase, real, imaginary, unitsOfAngle_quarter (halfTurn_ne_zero nonzero), phase, Nat.mod_add_mod]

/-- R47: along the axes and the diagonals. -/
theorem phase_of_direction {n : Int} (positive : 0 < n) :
    phase n 0 = 0 ∧ phase n n = 512 ∧ phase 0 n = 1024 ∧ phase (-n) n = 1536 ∧ phase (-n) 0 = 2048
      ∧ phase (-n) (-n) = 2560 ∧ phase 0 (-n) = 3072 ∧ phase n (-n) = 3584 := by
  have along (a b : Int) : phase (n * a) (n * b) = phase a b := phase_scale positive a b
  have unit : phase 1 0 = 0 ∧ phase 1 1 = 512 ∧ phase 0 1 = 1024 ∧ phase (-1) 1 = 1536 ∧ phase (-1) 0 = 2048
      ∧ phase (-1) (-1) = 2560 ∧ phase 0 (-1) = 3072 ∧ phase 1 (-1) = 3584 := by decide
  simpa only [← along 1 0, ← along 1 1, ← along 0 1, ← along (-1) 1, ← along (-1) 0, ← along (-1) (-1),
    ← along 0 (-1), ← along 1 (-1), mul_one, mul_zero, mul_neg] using unit

/-! ### Stages 1 and 2 -/

/-- R40: a product scaled back by 16384, to the nearest. -/
theorem scaleBack_nearest (z : Int) :
    (2 * ((z + 8192) / 16384) - 1) * 16384 ≤ 2 * z ∧ 2 * z < (2 * ((z + 8192) / 16384) + 1) * 16384 := by
  omega

theorem amplitude2_cast (u v : Int) : (amplitude2 (u, v) : Int) = u * u + v * v :=
  Int.toNat_of_nonneg (add_nonneg (mul_self_nonneg u) (mul_self_nonneg v))

/-- R43: the squared amplitude is compared with the square of a limit. -/
theorem amplitude2_lt_iff (u v : Int) (limit : Nat) :
    amplitude2 (u, v) < limit * limit ↔ u * u + v * v < (limit * limit : Int) := by
  rw [← amplitude2_cast]
  exact_mod_cast Iff.rfl

theorem judgedWeak_iff (st : AxisSettings) (flag clipped : Bool) (u v : Int) :
    judgedWeak st flag clipped (u, v) = true ↔ clipped = true ∨ (u = 0 ∧ v = 0)
      ∨ u * u + v * v < (st.wLo * st.wLo : Int) ∨ (flag = true ∧ u * u + v * v < (st.wHi * st.wHi : Int)) := by
  simp only [judgedWeak, Bool.or_eq_true, Bool.and_eq_true, beq_iff_eq, decide_eq_true_iff, amplitude2_lt_iff, or_assoc]

theorem weakAfter_eq (st : AxisSettings) (flag weak : Bool) (u v : Int) :
    weakAfter st flag weak (u, v) = (weak || (flag && decide (u * u + v * v < (st.wHi * st.wHi : Int)))) := by
  have strong : st.wHi * st.wHi ≤ amplitude2 (u, v) ↔ ¬u * u + v * v < (st.wHi * st.wHi : Int) := by
    rw [← not_lt, amplitude2_lt_iff]
  unfold weakAfter
  cases weak
  · by_cases below : u * u + v * v < (st.wHi * st.wHi : Int) <;> simp [strong, below]
  · rfl

/-- Settles O14: the corrected pair by the two floors that round it, the judgement by comparing squares, and the phase
because every comparison it makes keeps its outcome when the pair is scaled and moves one quarter on with a quarter turn. -/
theorem phaseFollowsTheDirection : Obligations.PhaseFollowsTheDirection := by
  unfold Obligations.PhaseFollowsTheDirection
  refine ⟨fun u v n nonzero positive => ⟨phase_scale positive u v, phase_quarter nonzero, Nat.mod_lt _ (by decide)⟩,
    fun n => phase_of_direction, fun st c s => ⟨stageW st c s, stageV st c s, ?_⟩, fun st flag clipped u v => ?_⟩
  · obtain ⟨wLow, wHigh⟩ := scaleBack_nearest ((s - st.oS) * st.gain - (c - st.oC) * st.ks)
    obtain ⟨vLow, vHigh⟩ := scaleBack_nearest (stageW st c s * st.kc)
    refine ⟨wLow, wHigh, vLow, vHigh, ?_⟩
    rw [stage1, clamp_eq (by decide), clamp_eq (by decide)]
    rfl
  · exact ⟨judgedWeak_iff st flag clipped u v, amplitude2_cast u v, weakAfter_eq st flag _ u v⟩

/-! ### The scale of a position -/

section
variable {fVac deadPath : Nat} {x : Int}

/-- R82: the quotient is rounded to nearest. -/
theorem effectiveFactor_nearest (excess : isExcess x) :
    2 * (effectiveFactor fVac x * (1000000000 + x) - fVac * 1000000000) ≤ 1000000000 + x
      ∧ -(1000000000 + x) ≤ 2 * (effectiveFactor fVac x * (1000000000 + x) - fVac * 1000000000) := by
  obtain ⟨low, high⟩ := excess
  unfold effectiveFactor
  have divisor : 0 < 1000000000 + x := by omega
  generalize 1000000000 + x = d at *
  generalize (fVac : Int) * 1000000000 = n
  have nonneg := Int.emod_nonneg (n + d / 2) divisor.ne'
  have small := Int.emod_lt_of_pos (n + d / 2) divisor
  have whole := Int.ediv_mul_add_emod (n + d / 2) d
  omega

theorem effectiveFactor_mem (least : 1 ≤ fVac) (most : fVac ≤ 4294967295) (excess : isExcess x) :
    1 ≤ effectiveFactor fVac x ∧ effectiveFactor fVac x ≤ 4299266562 := by
  obtain ⟨low, high⟩ := excess
  have divisor : 0 < 1000000000 + x := by omega
  unfold effectiveFactor
  constructor
  · rw [Int.le_ediv_iff_mul_le divisor]
    omega
  · rw [← Int.lt_add_one_iff, Int.ediv_lt_iff_lt_mul divisor]
    omega

theorem effectiveFactor_zero : effectiveFactor fVac 0 = fVac := by
  unfold effectiveFactor
  omega

theorem deadPathTerm_mem {xRef : Int} (most : deadPath ≤ 65535) (reference : isExcess xRef) (excess : isExcess x) :
    -131070000 ≤ deadPathTerm deadPath xRef x ∧ deadPathTerm deadPath xRef x ≤ 131070000 := by
  obtain ⟨refLow, refHigh⟩ := reference
  obtain ⟨low, high⟩ := excess
  have most' : (deadPath : Int) ≤ 65535 := by omega
  have least : (0 : Int) ≤ deadPath := Int.natCast_nonneg _
  have upper : (deadPath : Int) * (xRef - x) ≤ 131070000000 := by nlinarith
  have lower : -131070000000 ≤ (deadPath : Int) * (xRef - x) := by nlinarith
  unfold deadPathTerm
  omega

theorem deadPathTerm_zero (xRef x : Int) : deadPathTerm 0 xRef x = 0 := by
  simp [deadPathTerm]

theorem deadPathTerm_self (deadPath : Nat) (x : Int) : deadPathTerm deadPath x x = 0 := by
  simp [deadPathTerm]

end

/-- R83: the length of a count is rounded to nearest. -/
theorem lengthOf_nearest (count factor : Int) :
    (2 * lengthOf count factor - 1) * 16777216 ≤ 2 * (count * factor)
      ∧ 2 * (count * factor) < (2 * lengthOf count factor + 1) * 16777216 := by
  unfold lengthOf
  generalize count * factor = n
  omega

theorem raiseSaturated_within {s : State} {subject : Nat} {sum : Int} (low : -140737488355327 ≤ sum)
    (high : sum ≤ 140737488355327) : raiseSaturated s subject sum = s :=
  if_pos ((within48_iff sum).2 ⟨low, high⟩)

theorem raiseSaturated_above {s : State} {subject : Nat} {sum : Int} (above : 140737488355327 < sum) :
    raiseSaturated s subject sum = s.raised [⟨.scu, .positionSaturated, subject, 3#32, 0⟩] := by
  have outside : ¬within48 sum = true := fun h => by
    obtain ⟨-, high⟩ := (within48_iff sum).1 h
    omega
  rw [raiseSaturated_eq, saturationRaises, if_neg outside, if_pos (by omega)]

theorem raiseSaturated_below {s : State} {subject : Nat} {sum : Int} (below : sum < -140737488355327) :
    raiseSaturated s subject sum = s.raised [⟨.scu, .positionSaturated, subject, 4#32, 0⟩] := by
  have outside : ¬within48 sum = true := fun h => by
    obtain ⟨low, -⟩ := (within48_iff sum).1 h
    omega
  rw [raiseSaturated_eq, saturationRaises, if_neg outside, if_neg (by omega)]

/-- Settles O16: each quotient by the floor that rounds it, its bounds by those of what is divided. -/
theorem scaleFactorAndDeadPathInRange : Obligations.ScaleFactorAndDeadPathInRange := by
  unfold Obligations.ScaleFactorAndDeadPathInRange
  refine ⟨fun fVac deadPath xRef x least most path reference excess => ?_, lengthOf_nearest, fun s a count => ?_⟩
  · obtain ⟨above, below⟩ := effectiveFactor_nearest (fVac := fVac) excess
    obtain ⟨factorLow, factorHigh⟩ := effectiveFactor_mem least most excess
    obtain ⟨pathLow, pathHigh⟩ := deadPathTerm_mem path reference excess
    exact ⟨above, below, factorLow, factorHigh, effectiveFactor_zero, pathLow, pathHigh, deadPathTerm_zero xRef x,
      deadPathTerm_self deadPath x⟩
  · have sign (z : Int) : signOf (s.axes[a]).settings * z = if (s.axes[a]).settings.negative then -z else z := by
      unfold signOf
      split <;> simp
    refine ⟨?_, raiseSaturated_within, raiseSaturated_above, raiseSaturated_below⟩
    rw [positionOf, saturate_eq, rawPosition, signedLength, sign]
    cases group : (s.axes[a]).settings.group <;> rfl

end Sys2Proof.Machine
end

section
/-! SUPPORT. The resolution of a waiting field: its bracket, its count and its status (R72, R91, R139, R140), and the
composites formed from resolved fields (R96 to R99). -/

namespace Sys2Proof.Machine

/-! ### The count within a bracket -/

/-- A part m of d of the way from 0 to a, rounded to nearest, lies between 0 and a. -/
theorem roundDiv_mem {a m d : Int} (positive : 0 < d) (low : 0 ≤ m) (high : m ≤ d) :
    min 0 a ≤ roundDiv (a * m) d ∧ roundDiv (a * m) d ≤ max 0 a := by
  obtain ⟨below, above⟩ := roundDiv_spec (x := a * m) positive
  generalize roundDiv (a * m) d = q at *
  obtain rising | falling := le_total 0 a
  · have least : 0 ≤ a * m := mul_nonneg rising low
    have most : a * m ≤ a * d := mul_le_mul_of_nonneg_left high rising
    rw [min_eq_left rising, max_eq_right rising]
    constructor <;> nlinarith
  · have most : a * m ≤ 0 := mul_nonpos_of_nonpos_of_nonneg falling low
    have least : a * d ≤ a * m := mul_le_mul_of_nonpos_left high falling
    rw [min_eq_right falling, max_eq_left falling]
    constructor <;> nlinarith

section
variable {h0 h1 : HistEntry} {t : Time}

theorem interpolate_at_first : interpolate h0 h1 h0.time = h0.count := if_pos rfl

theorem interpolate_at_second (apart : h1.time ≠ h0.time) : interpolate h0 h1 h1.time = h1.count := by
  rw [interpolate, if_neg (Ne.symm apart), if_pos rfl]

/-- Times that differ lie a number of ticks above 0 apart. -/
theorem span_positive (apart : h1.time ≠ h0.time) : 0 < ((h1.time - h0.time).toNat : Int) := by
  have nonzero : h1.time - h0.time ≠ 0 := sub_ne_zero.2 apart
  have positive : 0 < (h1.time - h0.time).toNat :=
    Nat.pos_of_ne_zero fun zero => nonzero (BitVec.eq_of_toNat_eq (by simpa using zero))
  exact_mod_cast positive

/-- R140: the count is the one of the first entry and the rounded part of the way to the second. -/
theorem interpolate_eq (apart : h1.time ≠ h0.time) : interpolate h0 h1 t
    = h0.count + roundDiv ((h1.count - h0.count) * (t - h0.time).toNat) (h1.time - h0.time).toNat := by
  have span := span_positive apart
  unfold interpolate
  split
  next start =>
    subst start
    have none : roundDiv 0 ((h1.time - h0.time).toNat : Int) = 0 := by
      obtain ⟨low, high⟩ := roundDiv_spec (x := 0) span
      nlinarith
    have zero : ((h0.time - h0.time).toNat : Int) = 0 := by
      rw [BitVec.sub_self]
      rfl
    rw [zero, mul_zero, none, add_zero]
  · split
    next finish =>
      subst finish
      have whole : roundDiv ((h1.count - h0.count) * (h1.time - h0.time).toNat) (h1.time - h0.time).toNat
          = h1.count - h0.count := by
        obtain ⟨low, high⟩ := roundDiv_spec (x := (h1.count - h0.count) * (h1.time - h0.time).toNat) span
        nlinarith
      rw [whole]
      omega
    · rfl

theorem interpolate_mem (within : (t - h0.time).toNat ≤ (h1.time - h0.time).toNat) :
    min h0.count h1.count ≤ interpolate h0 h1 t ∧ interpolate h0 h1 t ≤ max h0.count h1.count := by
  by_cases same : h1.time = h0.time
  · exact interpolate_spanless same t
  · rw [interpolate_eq same]
    obtain ⟨low, high⟩ := roundDiv_mem (a := h1.count - h0.count) (span_positive same) (Int.natCast_nonneg _)
      (Int.ofNat_le.2 within)
    omega

end

/-! ### The entries of a bracket -/

theorem bracketAfter_eq_some {ring : List HistEntry} {t : Time} {h : HistEntry} :
    bracketAfter ring t = some h ↔ ∃ older newer, ring = older ++ h :: newer ∧ later t h.time = false
      ∧ ∀ x ∈ older, later t x.time = true := by
  rw [bracketAfter, List.find?_eq_some_iff_append]
  simp only [Bool.not_eq_true', Bool.not_not]
  constructor
  · rintro ⟨notLater, older, newer, rfl, all⟩
    exact ⟨older, newer, rfl, notLater, all⟩
  · rintro ⟨older, newer, rfl, notLater, all⟩
    exact ⟨notLater, older, newer, rfl, all⟩

theorem bracketBefore_eq_some {ring : List HistEntry} {t : Time} {h : HistEntry} :
    bracketBefore ring t = some h ↔ ∃ older newer, ring = older ++ h :: newer ∧ later h.time t = false
      ∧ ∀ x ∈ newer, later x.time t = true := by
  rw [bracketBefore, List.find?_eq_some_iff_append]
  simp only [Bool.not_eq_true', Bool.not_not]
  constructor
  · rintro ⟨notLater, newer, older, reversed, all⟩
    refine ⟨older.reverse, newer.reverse, ?_, notLater, fun x mem => all x (List.mem_reverse.1 mem)⟩
    rw [← List.reverse_reverse ring, reversed]
    simp
  · rintro ⟨older, newer, rfl, notLater, all⟩
    refine ⟨notLater, newer.reverse, older.reverse, by simp, fun x mem => all x (List.mem_reverse.1 mem)⟩

/-! ### The test of a waiting raw field -/

theorem Entry.waitsFor_iff {e : Entry} {a : AxisId} : e.waitsFor a = true ↔ e.raw[a] = some .waiting := by
  simp [Entry.waitsFor]

theorem olderThanRing_eq_true {ring : List HistEntry} {t : Time} :
    olderThanRing ring t = true ↔ ∃ h ∈ ring.head?, later h.time t = true := by
  cases ring <;> simp [olderThanRing]

theorem olderThanRing_eq_false {ring : List HistEntry} {t : Time} :
    olderThanRing ring t = false ↔ ∀ h ∈ ring.head?, later h.time t = false := by
  cases ring <;> simp [olderThanRing]

section
variable {c : AxisContext} {t : Time}

/-- R139: a field with a bracket, and without one. -/
theorem testField_bracket {h0 h1 : HistEntry} (before : bracketBefore c.ring t = some h0)
    (beyond : bracketAfter c.ring t = some h1) : testField c t = .bracket h0 h1 := by
  simp only [testField, before, beyond]

theorem testField_no_bracket (none : bracketBefore c.ring t = none ∨ bracketAfter c.ring t = none) :
    testField c t = if olderThanRing c.ring t then .late else if c.counting then .waiting else .off := by
  unfold testField
  split
  next h0 h1 before beyond => simp [before, beyond] at none
  next => rfl

end

theorem testRaw_not_waiting {a : AxisId} {e : Entry} (resolved : e.raw[a] ≠ some .waiting) (s : State) :
    testRaw a s e = (s, e) := by
  rw [testRaw, if_neg (mt Entry.waitsFor_iff.1 resolved)]

section
variable {a : AxisId} {s : State} {e : Entry} (waits : e.raw[a] = some .waiting)
include waits

theorem testRaw_bracket {h0 h1 : HistEntry} (found : testField (s.axes[a]).ctx e.time = .bracket h0 h1) :
    testRaw a s e =
      (handOutcome e a (.bracket (interpolate h0 h1 e.time) h1.slip e.time) (raiseSaturated s a.val
        (rawPosition s.axes[a] (interpolate h0 h1 e.time) (appliedOf s (s.axes[a]).settings.group))),
        e.resolve a (.value (bracketStatus h0 h1) (positionOf s a (interpolate h0 h1 e.time)) (staleMark s a))) := by
  rw [testRaw, if_pos (Entry.waitsFor_iff.2 waits), found]
  rfl

theorem testRaw_late (found : testField (s.axes[a]).ctx e.time = .late) : testRaw a s e =
    (handOutcome e a .late (s.raise .cap .captureLate a.val e.source.val), e.resolve a (.absent .late)) := by
  rw [testRaw, if_pos (Entry.waitsFor_iff.2 waits), found]

theorem testRaw_off (found : testField (s.axes[a]).ctx e.time = .off) :
    testRaw a s e = (handOutcome e a .off s, e.resolve a (.absent .off)) := by
  rw [testRaw, if_pos (Entry.waitsFor_iff.2 waits), found]

theorem testRaw_waiting (found : testField (s.axes[a]).ctx e.time = .waiting) : testRaw a s e = (s, e) := by
  rw [testRaw, if_pos (Entry.waitsFor_iff.2 waits), found]

end

/-! ### Composites -/

section
variable {x y : AxisId} {wa wb pa pb : Int} {sep : Nat} {back ma mb : Bool} {sa sb ra rb : FieldStatus}

theorem weighted_of_values : ∃ p, compositeField (.weighted x y wa wb back) (.value sa pa ma) (.value sb pb mb)
      = .value (worse sa sb) p (ma || mb)
    ∧ (2 * p - 1) * 16384 ≤ 2 * (wa * pa + wb * pb) ∧ 2 * (wa * pa + wb * pb) < (2 * p + 1) * 16384 :=
  ⟨_, rfl, scaleBack_nearest _⟩

theorem diffRatio_of_values (positive : 0 < sep) :
    ∃ p, compositeField (.diffRatio x y sep) (.value sa pa ma) (.value sb pb mb) = .value (worse sa sb) p (ma || mb)
      ∧ (2 * p - 1) * sep ≤ 2 * (pa - pb) ∧ 2 * (pa - pb) < (2 * p + 1) * sep :=
  ⟨roundDiv (pa - pb) sep, rfl, roundDiv_spec (Int.natCast_pos.2 positive)⟩

theorem fallback_of_first : ∃ p, compositeField (.weighted x y wa wb true) (.value sa pa ma) (.absent rb)
      = .value (fallbackStatus sa) p ma
    ∧ (2 * p - 1) * 16384 ≤ 2 * ((wa + wb) * pa) ∧ 2 * ((wa + wb) * pa) < (2 * p + 1) * 16384 :=
  ⟨_, rfl, scaleBack_nearest _⟩

theorem fallback_of_second : ∃ p, compositeField (.weighted x y wa wb true) (.absent ra) (.value sb pb mb)
      = .value (fallbackStatus sb) p mb
    ∧ (2 * p - 1) * 16384 ≤ 2 * ((wa + wb) * pb) ∧ 2 * ((wa + wb) * pb) < (2 * p + 1) * 16384 :=
  ⟨_, rfl, scaleBack_nearest _⟩

end

/-- Settles O17: the count by the quotient that is rounded, the bracket's entries by the first one the search meets, the
field by the case its test finds, and the composites by their formulas. -/
theorem interpolatedCountLiesInItsBracket : Obligations.InterpolatedCountLiesInItsBracket := by
  unfold Obligations.InterpolatedCountLiesInItsBracket
  refine ⟨fun h0 h1 t within => ?_, fun h0 h1 t same => interpolate_spanless same t,
    fun ring t h => ⟨bracketBefore_eq_some, bracketAfter_eq_some⟩, fun s a e => ?_, ?_, settleComposites_eq⟩
  · obtain ⟨low, high⟩ := interpolate_mem within
    refine ⟨low, high, interpolate_at_first, fun apart => ⟨interpolate_at_second apart, ?_⟩⟩
    dsimp only
    rw [interpolate_eq apart, add_sub_cancel_left]
    exact roundDiv_spec (span_positive apart)
  · intro c outcome resolved
    refine ⟨fun done => testRaw_not_waiting done s, fun waits => ⟨fun h0 h1 before beyond => ?_, fun none => ?_⟩⟩
    · rw [testRaw_bracket waits (testField_bracket before beyond)]
      cases group : (s.axes[a]).settings.group <;> simp only [staleMark, group] <;> rfl
    · have found : testField c e.time = _ := testField_no_bracket none
      refine ⟨fun older => ?_, fun notOlder idle => ?_, fun notOlder counting => ?_⟩
      · rw [olderThanRing_eq_true.2 older, if_pos rfl] at found
        exact testRaw_late waits found
      · rw [olderThanRing_eq_false.2 notOlder, idle] at found
        exact testRaw_off waits found
      · rw [olderThanRing_eq_false.2 notOlder, counting] at found
        exact testRaw_waiting waits found
  · intro x y wa wb pa pb sep back ma mb sa sb ra rb positive
    exact ⟨weighted_of_values, diffRatio_of_values positive, fallback_of_first, fallback_of_second, rfl, rfl, rfl, rfl,
      by cases back <;> rfl, rfl⟩

end Sys2Proof.Machine
end

section
/-! SUPPORT. A frame received whole, with the forward queue and the intake (R8 to R13, R17, R21, R174), and the chain-down
timer (R20). -/

namespace Sys2Proof.Machine

/-! ### Reception -/

theorem offerForward_eq_offered (b : List Byte) (copy : Option Nat) (s : State) :
    offerForward b copy s = offered b copy s := by
  unfold offered
  split
  next room => exact offerForward_room room
  next full =>
    rw [offerForward_full (Nat.le_of_not_lt full), raise_eq_raised, BitVec.ofInt_natCast]
    rfl

theorem countGoodFrame_eq_counted (s : State) : countGoodFrame s = counted s := by
  unfold countGoodFrame counted
  dsimp only
  split
  next below =>
    have short : s.cpt.decay + 1 < 1000 := below
    rw [if_pos short]
    rfl
  next atLimit =>
    have due : ¬s.cpt.decay + 1 < 1000 := atLimit
    rw [if_neg due]
    rfl

theorem receive_good {b : List Byte} (good : goodFrame b = true) (s : State) : receive b s =
    if s.cpt.station ≠ 0 then handleAssigned b (counted s) else handleUnassigned b (counted s) := by
  have station : assigned (counted s) = decide (s.cpt.station ≠ 0) := by
    rw [← countGoodFrame_eq_counted, countGoodFrame_state]
    simp only [assigned, bne, decide_not]
    rfl
  unfold receive
  rw [if_pos good]
  dsimp only
  rw [countGoodFrame_eq_counted, station]
  simp only [decide_eq_true_iff]

theorem goodFrameOfKind_iff {kind : Nat} {b : List Byte} :
    goodFrameOfKind kind b = true ↔ goodFrame b = true ∧ frameKind b = kind := by
  simp [goodFrameOfKind]

/-- A good frame of one kind received by an assigned part. -/
theorem receive_assigned {kind : Nat} {b : List Byte} {s : State} (good : goodFrameOfKind kind b = true)
    (station : s.cpt.station ≠ 0) : receive b s = handleAssigned b (counted s) ∧ frameKind b = kind := by
  obtain ⟨isGood, isKind⟩ := goodFrameOfKind_iff.1 good
  exact ⟨(receive_good isGood s).trans (if_pos station), isKind⟩

/-- A good frame counted changes only CPT's decay and bucket, and the reports. -/
theorem counted_state (s : State) : counted s = { s with
    cpt := { s.cpt with decay := (counted s).cpt.decay, bucket := (counted s).cpt.bucket }
    bus := { s.bus with reports := (counted s).bus.reports } } := by
  unfold counted
  split <;> rfl

theorem counted_station (s : State) : (counted s).cpt.station = s.cpt.station := by rw [counted_state]
theorem counted_observed (s : State) : (counted s).cpt.observed = s.cpt.observed := by rw [counted_state]
theorem counted_established (s : State) : (counted s).cpt.established = s.cpt.established := by rw [counted_state]
theorem counted_nextCopy (s : State) : (counted s).cpt.nextCopy = s.cpt.nextCopy := by rw [counted_state]

/-- Settles O19: a bad frame is dropped with what R8 and R9 raise. -/
theorem badFramesFillTheBucketThatGoodFramesDrain : Obligations.BadFramesFillTheBucketThatGoodFramesDrain := by
  unfold Obligations.BadFramesFillTheBucketThatGoodFramesDrain
  refine ⟨fun b s bad => congrArg Host.Outcome.next ?_, fun s last => congrArg Host.Outcome.next ?_⟩
  · have dropped : receive b s = dropBadFrame b s := if_neg (by simp [bad])
    rw [dropped]
    unfold dropBadFrame countBadFrame
    by_cases shape : frameWellFormed b = true <;> by_cases step : s.cpt.bucket = 31 <;>
      simp [shape, step, State.raise, State.report, State.reportTimes, State.raiseTimes, State.modCpt, State.modBus]
  · rw [if_pos (by rw [last]; decide)]
    rfl

/-! ### CYCLE and ASSIGN -/

theorem handleAssigned_of_cycle {b : List Byte} (kind : frameKind b = 1) (s : State) :
    handleAssigned b s = takeCycle b s := by
  unfold handleAssigned
  rw [kind]
  rfl

theorem claimedFrame_eq (b : List Byte) (s : State) : claimedFrame b s =
    if attentionPending s.fmn = true ∧ frameSlot b = 0 then alterByte b 3 s.cpt.station else b := by
  simp [claimedFrame]

theorem keepTime_taken {b : List Byte} {s : State}
    (taken : s.cpt.established = false ∨ later (frameTime b) s.cpt.observed = true) :
    keepTime b s = advanceTo (frameTime b) s := by
  have takes : timeTaken s.cpt (frameTime b) = true := by simpa [timeTaken] using taken
  rw [keepTime, if_pos takes]

theorem keepTime_refused {b : List Byte} {s : State} (established : s.cpt.established = true)
    (notLater : later (frameTime b) s.cpt.observed = false) : keepTime b s =
      s.raised [⟨.cpt, .linkTime, frameSource b, BitVec.ofNat 32 (frameTime b).toNat, 0⟩] := by
  have refuses : ¬timeTaken s.cpt (frameTime b) = true := by simp [timeTaken, established, notLater]
  rw [keepTime, if_neg refuses, raise_eq_raised, BitVec.ofInt_natCast]

/-- Settles O20: the two cases of R17, with the slot of R21 claimed in what is forwarded. -/
theorem cycleFramesKeepTimeAndAreForwarded : Obligations.CycleFramesKeepTimeAndAreForwarded := by
  unfold Obligations.CycleFramesKeepTimeAndAreForwarded
  intro b s good station out s1
  obtain ⟨handled, kind⟩ := receive_assigned good station
  have taken : receive b s = takeCycle b (counted s) := handled.trans (handleAssigned_of_cycle kind _)
  have fmn : (counted s).fmn = s.fmn := by rw [counted_state]
  refine ⟨fun takes => congrArg Host.Outcome.next ?_, fun established notLater => congrArg Host.Outcome.next ?_⟩
  · have takes' : ((counted s).report .cpt .cycleFrames).cpt.established = false
        ∨ later (frameTime b) ((counted s).report .cpt .cycleFrames).cpt.observed = true := by
      simpa only [State.report_cpt, counted_established, counted_observed] using takes
    rw [taken, takeCycle]
    dsimp only
    rw [keepTime_taken takes', claimedFrame_eq, offerForward_eq_offered]
    have claimed : (advanceTo (frameTime b) ((counted s).report .cpt .cycleFrames)).fmn = s.fmn := fmn
    have number : (advanceTo (frameTime b) ((counted s).report .cpt .cycleFrames)).cpt.station = s.cpt.station :=
      counted_station s
    rw [claimed, number]
    refine congrArg (offered out none) ?_
    simp only [advanceTo, handAdvance, s1]
    rw [counted_state]
    rfl
  · have refused := keepTime_refused (b := b) (s := (counted s).report .cpt .cycleFrames)
      ((counted_established s).trans established) (by simpa only [State.report_cpt, counted_observed] using notLater)
    rw [taken, takeCycle]
    dsimp only
    rw [refused, claimedFrame_eq, offerForward_eq_offered]
    refine congrArg₂ (fun frame u => offered frame none u) ?_ ?_
    · have claimed : (((counted s).report .cpt .cycleFrames).raised
          [⟨.cpt, .linkTime, frameSource b, BitVec.ofNat 32 (frameTime b).toNat, 0⟩]).fmn = s.fmn := fmn
      have number : (((counted s).report .cpt .cycleFrames).raised
          [⟨.cpt, .linkTime, frameSource b, BitVec.ofNat 32 (frameTime b).toNat, 0⟩]).cpt.station = s.cpt.station :=
        counted_station s
      rw [claimed, number]
    · simp only [s1]
      rw [counted_state]
      rfl

theorem assignTakes_iff {b : List Byte} : assignTakes b = true ↔ 2 ≤ (framePayload b).length
    ∧ 1 ≤ field (framePayload b) 0 1 ∧ field (framePayload b) 0 1 ≤ 250 := by
  simp [assignTakes, and_assoc]

/-- Settles O21: an ASSIGN frame is taken by an unassigned part under the test of R12, and otherwise forwarded. -/
theorem assignFramesNumberUnassignedParts : Obligations.AssignFramesNumberUnassignedParts := by
  unfold Obligations.AssignFramesNumberUnassignedParts
  intro b s isAssign n s1
  obtain ⟨good, (kind : frameKind b = kindAssign)⟩ := goodFrameOfKind_iff.1 isAssign
  refine ⟨fun unassigned long least most => congrArg Host.Outcome.next ?_, fun refuses => congrArg Host.Outcome.next ?_⟩
  · have takes : assignTakes b = true := assignTakes_iff.2 ⟨long, least, most⟩
    rw [receive_good good, if_neg (not_not.2 unassigned), handleUnassigned, if_pos kind, takeAssign, if_pos takes]
    dsimp only
    rw [offerForward_eq_offered]
    rfl
  · rw [receive_good good]
    split
    · unfold handleAssigned
      rw [kind]
      exact offerForward_eq_offered ..
    next unassigned =>
      have fails : ¬assignTakes b = true := by
        rw [assignTakes_iff]
        omega
      rw [handleUnassigned, if_pos kind, takeAssign, if_neg fails, offerForward_eq_offered]

/-! ### MANAGE and forwarded frames -/

theorem handleAssigned_of_manage {b : List Byte} (kind : frameKind b = 6) (s : State) :
    handleAssigned b s = takeManage b s := by
  unfold handleAssigned
  rw [kind]
  rfl

/-- R174: the request that a MANAGE frame brings. -/
def requestOf (b : List Byte) (copy : Nat) : Request :=
  ⟨frameSource b, frameDest b == 255, frameTag b, framePayload b, copy⟩

theorem joinIntake_eq (b : List Byte) (s : State) : joinIntake b s =
    if s.mga.intake.length < 4 then
      { s with mga := { s.mga with intake := s.mga.intake ++ [requestOf b s.cpt.nextCopy] } }
    else s.raised [⟨.mga, .manageOverrun, frameSource b, BitVec.ofNat 32 (field (framePayload b) 0 1), 0⟩] := by
  split
  next room => exact joinIntake_room room
  next full =>
    have noRoom : ¬s.mga.intake.length < Config.intakeDepth := full
    rw [joinIntake, if_neg noRoom, raise_eq_raised, BitVec.ofInt_natCast]

theorem handleAssigned_other {b : List Byte} (kind : frameKind b = 0 ∨ frameKind b = 2 ∨ 6 < frameKind b) (s : State) :
    handleAssigned b s = offerForward b none s := by
  unfold handleAssigned
  split
  case h_6 => rfl
  all_goals omega

/-- Settles O24: the three destinations of a MANAGE frame, and the kinds that no block takes. -/
theorem manageFramesJoinTheIntakeOthersAreForwarded : Obligations.ManageFramesJoinTheIntakeOthersAreForwarded := by
  unfold Obligations.ManageFramesJoinTheIntakeOthersAreForwarded
  refine ⟨fun b s good station => ?_, fun b s good other => congrArg Host.Outcome.next ?_⟩
  · intro request joined
    obtain ⟨handled, kind⟩ := receive_assigned good station
    have taken : receive b s = takeManage b (counted s) := handled.trans (handleAssigned_of_manage kind _)
    have joins (broadcast : Bool) (dest : (frameDest b == 255) = broadcast) :
        joinIntake b (counted s) = joined broadcast := by
      have mga : (counted s).mga = s.mga := by rw [counted_state]
      have raises : (counted s).bus.raises = s.bus.raises := by rw [counted_state]
      rw [joinIntake_eq, requestOf, dest, counted_nextCopy, mga]
      simp only [joined, request, State.raised, raises]
    refine ⟨fun mine notAll => congrArg Host.Outcome.next ?_, fun all => congrArg Host.Outcome.next ?_⟩
    · rw [taken, takeManage, if_neg notAll, if_pos (mine.trans (counted_station s).symm)]
      exact joins false (by simpa using notAll)
    · rw [taken, takeManage, if_pos all]
      dsimp only
      rw [joins true (by simp [all]), offerForward_eq_offered, counted_nextCopy]
      have cpt : (joined true).cpt = (counted s).cpt := by
        simp only [joined]
        split <;> rfl
      refine congrArg (offered b (some s.cpt.nextCopy)) ?_
      rw [State.modCpt, cpt, counted_nextCopy]
  · rw [receive_good good, ← offerForward_eq_offered]
    split
    next station =>
      rw [if_neg station] at other
      obtain none | isAssign | above | ⟨isManage, notAll, notMine⟩ := other
      · exact handleAssigned_other (.inl none) _
      · exact handleAssigned_other (.inr (.inl isAssign)) _
      · exact handleAssigned_other (.inr (.inr above)) _
      · rw [handleAssigned_of_manage isManage, takeManage, if_neg notAll, if_neg]
        rwa [counted_station]
    next unassigned =>
      rw [if_pos (not_not.1 unassigned)] at other
      exact if_neg other

/-! ### The chain-down timer -/

theorem tickTimer_assigned {s : State} (station : s.cpt.station ≠ 0) :
    tickTimer s = { s with cpt := { s.cpt with timer := s.cpt.timer + 1 } } := by
  have isAssigned : assigned s = true := by simpa [assigned] using station
  exact if_pos isAssigned

/-- Settles O25: each microsecond ticks the timer of an assigned part, and the chain goes down once it has reached the
limit. -/
theorem chainGoesDownAtTheLimit : Obligations.ChainGoesDownAtTheLimit := by
  unfold Obligations.ChainGoesDownAtTheLimit
  refine ⟨fun s unassigned => congrArg Host.Outcome.next ?_, fun s station => ?_⟩
  · rw [(checkChainDown_unassigned (by simpa using unassigned)).2,
      (checkChainDown_unassigned (by simpa using unassigned)).1]
    rfl
  · intro tick lost
    have ticked : tickTimer (s.report .cpt .always) = tick := tickTimer_assigned station
    refine ⟨fun stays => congrArg Host.Outcome.next ?_,
      fun up reached => ⟨congrArg Host.Outcome.next ?_, congrArg Host.Outcome.next ?_⟩⟩
    · rw [ticked, checkChainDown_eq, if_neg]
      rintro ⟨-, isUp, atLimit⟩
      obtain isDown | below := stays
      · exact absurd (isDown.symm.trans isUp) nofun
      · exact absurd atLimit (Nat.not_le.2 below)
    · rw [ticked, checkChainDown_eq, if_pos ⟨station, up, reached⟩]
    · rw [if_pos (by simp [up, reached]), tickTimer_assigned station, checkChainDown_eq, if_pos ⟨station, up, reached⟩]

end Sys2Proof.Machine
end

section
/-! SUPPORT. The outbound port: the arbiter's choice, the frames the part fills (R6, R7, R14 to R16, R163 to R169), and the
full resets (R23, R187, R188). -/

namespace Sys2Proof.Machine

/-! ### The arbiter -/

theorem insertWaiting_iff (s : State) : insertWaiting s = true ↔ s.mga.responses ≠ [] ∨ offerHolds s = true := by
  simp [insertWaiting]

theorem resetBegun_iff (s : State) : resetBegun s = true ↔
    (s.mga.resetWait = some .response ∧ ∀ r ∈ s.mga.responses, r.endsInReset = false)
      ∨ ∃ n, s.mga.resetWait = some (.copy n) ∧ ∀ f ∈ s.cpt.forward, f.copyOf ≠ some n := by
  unfold resetBegun
  split
  next none => simp [none]
  next response => simp [response]
  next n copy => simp [copy]

theorem restartUnderWay_iff (m : Mga) :
    restartUnderWay m = true ↔ m.restartLeft ≠ [] ∧ m.restartLeft.length < 12 := by
  simp [restartUnderWay, restartBlocks]

theorem exec_transmitStart_free {s : State} (free : s.cpt.transmitter = none) (runs : transmitHeld s = false) :
    exec .transmitStart s = .next (arbitrate s) :=
  congrArg Host.Outcome.next (if_neg (by simp [free, runs]))

theorem arbitrate_forward {s : State} {f : ForwardedFrame} {rest : List ForwardedFrame} (waits : s.cpt.forward = f :: rest)
    (turn : insertWaiting s = true → s.cpt.fairness < 4) : arbitrate s =
      setFairness (if insertWaiting s then s.cpt.fairness + 1 else 0) (sendForward f rest s) := by
  unfold arbitrate
  rw [waits]
  dsimp only
  split
  next insert => rw [if_pos (turn insert)]
  next => rfl

theorem arbitrate_insert {s : State} (insert : insertWaiting s = true)
    (turn : s.cpt.forward = [] ∨ s.cpt.fairness = 4) : arbitrate s = setFairness 0 (sendInsert s) := by
  unfold arbitrate
  split
  next f rest waits =>
    have full : ¬s.cpt.fairness < 4 := by
      rw [waits] at turn
      simp only [reduceCtorEq, false_or] at turn
      omega
    rw [if_pos insert, if_neg full]
  next => rw [if_pos insert]

/-- Settles O26: the arbiter's cases, and the RESPONSE frame by its layout. -/
theorem arbiterChoosesByFairness : Obligations.ArbiterChoosesByFairness := by
  unfold Obligations.ArbiterChoosesByFairness
  refine ⟨fun s free runs => ⟨fun f rest waits turn => ?_, fun r rest waits turn => ?_⟩,
    fun s stays => congrArg Host.Outcome.next (if_pos (by simpa using stays)), fun s none noResponse noOffer => ?_,
    fun s => ⟨insertWaiting_iff s, ?_⟩, fun s => rfl, fun s r station dest tag fits => ?_⟩
  · rw [exec_transmitStart_free free runs, arbitrate_forward waits turn]
    rfl
  · have insert : insertWaiting s = true := (insertWaiting_iff s).2 (.inl (by simp [waits]))
    rw [exec_transmitStart_free free runs, arbitrate_insert insert turn, sendInsert, waits]
    rfl
  · have notWaiting : ¬insertWaiting s = true := by simp [insertWaiting_iff, noResponse, noOffer]
    have idle : arbitrate s = s := by
      unfold arbitrate
      rw [none]
      exact if_neg notWaiting
    refine congrArg Host.Outcome.next ?_
    rw [idle, ite_self]
  · rw [transmitHeld, Bool.or_eq_true, resetBegun_iff, restartUnderWay_iff, or_assoc]
  · intro b status
    obtain ⟨kind, destIs, source, slot, tagIs, time, payload⟩ := buildFrame_read (kind := kindResponse)
      (slot := 0) (time := s.cpt.observed) (payload := leBytes 1 r.code ++ leBytes 1 r.status.code ++ r.data)
      (by decide) dest station (by decide) tag
    refine ⟨goodFrame_responseFrame s fits, kind, destIs, source, slot, tagIs, time, payload.trans ?_⟩
    have code : r.status.code = status := rfl
    rw [code]
    rfl

/-! ### RECORD frames -/

theorem offerHolds_iff (s : State) : offerHolds s = true ↔ s.rqu.delivery.reader ≠ 0 ∧ s.rqu.queue ≠ []
    ∧ (0 < s.rqu.drain ∨ (s.rqu.delivery.pull = false
      ∧ (s.rqu.delivery.watermark ≤ s.rqu.queue.length ∨ s.rqu.ageDue = true))) := by
  unfold offerHolds offerCondition
  cases s.rqu.delivery.pull <;>
    simp only [Bool.and_eq_true, bne_iff_ne, Bool.not_eq_true', Bool.or_eq_true, decide_eq_true_iff,
      List.isEmpty_eq_false_iff, Bool.false_eq_true, if_false, if_true, reduceCtorEq, false_and, true_and, or_false,
      and_assoc]
  tauto

theorem handOverCount_eq (q : Rqu) :
    handOverCount q = min (min 4 q.queue.length) (if q.delivery.pull then q.drain else 4) := by
  unfold handOverCount
  dsimp only
  split
  · rfl
  · omega

/-- R163: an offer hands over a record at least. -/
theorem handOverCount_pos {s : State} (offer : offerHolds s = true) : 1 ≤ handOverCount s.rqu := by
  obtain ⟨-, queued, condition⟩ := (offerHolds_iff s).1 offer
  have some : 1 ≤ s.rqu.queue.length := List.length_pos_iff.2 queued
  rw [handOverCount_eq]
  split
  next pull =>
    have drains : 0 < s.rqu.drain := by simpa [pull] using condition
    omega
  next => omega

theorem sendRecords_eq {s : State} (offer : offerHolds s = true) : sendRecords s = { s with
    cpt := { s.cpt with transmitter := some (recordFrame s) }
    rqu := { handOver (handOverCount s.rqu) s.rqu with ageDue := (sendRecords s).rqu.ageDue }
    bus := { s.bus with reports := s.bus.reports ++
      [⟨.cpt, .framesInserted, 0⟩, ⟨.cpt, .recordsTransmitted, handOverCount s.rqu - 1⟩] } } := by
  have some : handOverCount s.rqu ≠ 0 := Nat.one_le_iff_ne_zero.1 (handOverCount_pos offer)
  have reports : (sendRecords s).bus.reports = s.bus.reports ++
      [⟨.cpt, .framesInserted, 0⟩, ⟨.cpt, .recordsTransmitted, handOverCount s.rqu - 1⟩] := by
    unfold sendRecords State.reportTimes
    dsimp only
    rw [if_neg some]
    simp [transmit]
  rw [← reports]
  exact sendRecords_state s

/-- R166: the age of the oldest record, examined as the records leave. -/
theorem sendRecords_ageDue (s : State) : (sendRecords s).rqu.ageDue = ageDueNow (sendRecords s) := by
  unfold sendRecords State.reportTimes
  dsimp only
  split <;> rfl

/-- R7, R163: the payload of a RECORD frame. -/
theorem recordsPayload_cons (drops : Nat) (q : QueuedRecord) (rest : List QueuedRecord) :
    recordsPayload drops (q :: rest)
      = BitVec.ofNat 8 (1 + rest.length) :: (recordBytes drops q ++ rest.flatMap (recordBytes 0)) := by
  rw [Nat.add_comm]
  rfl

section
variable {drops : Nat} {q : QueuedRecord}

/-- R7: the 16 bytes before the axis entries of a record. -/
def recordHead (drops : Nat) (q : QueuedRecord) : List Byte :=
  leBytes 2 q.sequence ++ (leBytes 2 drops ++ (leBytes 1 q.body.kind.code ++ (leBytes 1 q.body.source.val
    ++ (leBytes 1 q.body.polarity.code ++ (leBytes 1 q.body.zone ++ (leBytes 6 q.body.time.toNat
    ++ ([recordFlags q.body] ++ leBytes 1 q.body.fields.length)))))))

theorem recordBytes_eq : recordBytes drops q = recordHead drops q ++ q.body.fields.flatMap axisEntryBytes := by
  simp only [recordBytes, recordHead, List.append_assoc]

@[simp] theorem length_recordHead : (recordHead drops q).length = 16 := by
  simp [recordHead]

theorem toNat_recordFlags (r : Record) : (recordFlags r).toNat
    = (if r.taint then 1 else 0) + (if r.ungated then 2 else 0) + (if r.envStale then 4 else 0) := by
  unfold recordFlags
  cases r.taint <;> cases r.ungated <;> cases r.envStale <;> rfl

/-- R7: where the items of a record stand and how they read. -/
theorem recordBytes_read (dropsFit : drops < 65536) (sequence : q.sequence < 65536) (zone : q.body.zone < 256)
    (fits : q.body.fits) : let d := recordBytes drops q
    field d 0 2 = q.sequence ∧ field d 2 2 = drops ∧ field d 4 1 = q.body.kind.code ∧ field d 5 1 = q.body.source.val
      ∧ field d 6 1 = q.body.polarity.code ∧ field d 7 1 = q.body.zone ∧ timeField d 8 = q.body.time
      ∧ field d 14 1 = (if q.body.taint then 1 else 0) + (if q.body.ungated then 2 else 0)
          + (if q.body.envStale then 4 else 0)
      ∧ field d 15 1 = q.body.fields.length := by
  have head {off size : Nat} (inside : off + size ≤ 16) :
      field (recordBytes drops q) off size = field (recordHead drops q) off size := by
    rw [recordBytes_eq]
    exact field_append_left (by simpa using inside)
  have kind : q.body.kind.code % 256 = q.body.kind.code := by cases q.body.kind <;> rfl
  have polarity : q.body.polarity.code % 256 = q.body.polarity.code := by cases q.body.polarity <;> rfl
  have source : q.body.source.val % 256 = q.body.source.val := by omega
  have count : q.body.fields.length % 256 = q.body.fields.length := by
    have : q.body.fields.length ≤ 10 := fits
    omega
  have zoneByte : q.body.zone % 256 = q.body.zone := by omega
  have sequenceWord : q.sequence % 65536 = q.sequence := by omega
  have dropsWord : drops % 65536 = drops := by omega
  have time : q.body.time.toNat % 281474976710656 = q.body.time.toNat := Nat.mod_eq_of_lt q.body.time.isLt
  dsimp only
  rw [timeField, head (by decide), head (by decide), head (by decide), head (by decide), head (by decide),
    head (by decide), head (by decide), head (by decide), head (by decide), ← toNat_recordFlags]
  refine ⟨?_, ?_, ?_, ?_, ?_, ?_, ?_, ?_, ?_⟩ <;>
    simp [recordHead, field_append_right, field_leBytes_append, field_leBytes, field_cons_zero, field_cons_succ, kind,
      polarity, source, count, zoneByte, sequenceWord, dropsWord, time]

/-- Fields of equal size stand one after another. -/
theorem field_flatMap {α : Type} {f : α → List Byte} {size : Nat} (each : ∀ x, (f x).length = size)
    {l : List α} {i : Nat}
    {x : α} (found : l[i]? = some x) {off n : Nat} (inside : off + n ≤ size) :
    field (l.flatMap f) (size * i + off) n = field (f x) off n := by
  induction l generalizing i with
  | nil => cases found
  | cons y l ih =>
    rw [List.flatMap_cons]
    cases i with
    | zero =>
      cases found
      rw [Nat.mul_zero, Nat.zero_add, field_append_left (by rw [each]; exact inside)]
    | succ i =>
      rw [field_append_right (by rw [each, Nat.mul_succ]; omega), each, ← ih (by simpa using found)]
      congr 1
      rw [Nat.mul_succ]
      omega

/-- R7: axis entry i of a record. -/
theorem axisEntry_read {i : Nat} {e : AxisEntry} (found : q.body.fields[i]? = some e) (axis : e.axis < 256)
    (value : within48 e.value = true) : let d := recordBytes drops q
    field d (16 + 8 * i) 1 = e.axis ∧ field d (17 + 8 * i) 1 = e.status.code
      ∧ signedField d (18 + 8 * i) 6 = e.value := by
  have entry {off size : Nat} (inside : off + size ≤ 8) :
      field (recordBytes drops q) (16 + 8 * i + off) size = field (axisEntryBytes e) off size := by
    rw [recordBytes_eq, field_append_right (by rw [length_recordHead]; omega), length_recordHead]
    have place : 16 + 8 * i + off - 16 = 8 * i + off := by omega
    rw [place, field_flatMap length_axisEntryBytes found inside]
  have range := (within48_iff _).1 value
  have axisByte : e.axis % 256 = e.axis := by omega
  have status : e.status.code % 256 = e.status.code := by cases e.status <;> rfl
  have signed : signedField (axisEntryBytes e) 2 6 = e.value := by
    rw [axisEntryBytes, signedField_append_right (by simp)]
    exact signedField_leInt (by decide) (by norm_num; omega) (by norm_num; omega)
  have second : 17 + 8 * i = 16 + 8 * i + 1 := by omega
  have third : 18 + 8 * i = 16 + 8 * i + 2 := by omega
  refine ⟨?_, ?_, ?_⟩
  · rw [← Nat.add_zero (16 + 8 * i), entry (by decide)]
    simp [axisEntryBytes, field_leBytes_append, axisByte]
  · rw [second, entry (by decide)]
    simp [axisEntryBytes, field_append_right, field_leBytes_append, status]
  · rw [third, signedField, entry (by decide), ← signedField, signed]

end

/-- Settles O27: an offer with its turn hands the oldest records over, and the RECORD frame by its layout. -/
theorem recordFramesTakeTheOldestRecords : Obligations.RecordFramesTakeTheOldestRecords := by
  unfold Obligations.RecordFramesTakeTheOldestRecords
  refine ⟨fun s free runs noResponse offer turn => ?_, offerHolds_iff,
    fun s q rest good station reader sequence taken => ?_, fun drops q dropsFit sequence zone fits => ?_⟩
  · intro n
    have count : handOverCount s.rqu = n := handOverCount_eq s.rqu
    have insert : insertWaiting s = true := (insertWaiting_iff s).2 (.inr offer)
    have sends : sendInsert s = sendRecords s := by
      unfold sendInsert
      rw [noResponse]
    refine ⟨count ▸ handOverCount_pos offer, setFairness 0 (sendRecords s), ?_, ?_, sendRecords_ageDue s⟩
    · rw [exec_transmitStart_free free runs, arbitrate_insert insert turn, sends]
    · rw [sendRecords_eq offer, ← count]
      rfl
  · intro b
    have queued : s.rqu.queue.take (handOverCount s.rqu) = q :: rest := by rw [handOverCount_eq, taken]
    have frame : b = buildFrame kindRecord s.rqu.delivery.reader s.cpt.station 0 q.sequence s.cpt.observed
        (recordsPayload s.rqu.drops (q :: rest)) := by
      simp only [b, recordFrame, queued]
    obtain ⟨kind, dest, source, slot, tag, time, payload⟩ := buildFrame_read (kind := kindRecord) (slot := 0)
      (time := s.cpt.observed) (payload := recordsPayload s.rqu.drops (q :: rest)) (by decide) reader station (by decide)
      sequence
    obtain ⟨-, -, -, fit, -⟩ := good
    rw [← frame] at kind dest source slot tag time payload
    exact ⟨goodFrame_recordFrame fit, kind, dest, source, slot, tag, time, payload.trans (recordsPayload_cons ..)⟩
  · intro d kind polarity
    obtain ⟨sequenceRead, dropsRead, kindRead, sourceRead, polarityRead, zoneRead, timeRead, flags, count⟩ :=
      recordBytes_read dropsFit sequence zone fits
    exact ⟨length_recordBytes drops q, sequenceRead, dropsRead, kindRead, sourceRead, polarityRead, zoneRead, timeRead,
      flags, count, fun i e found axis value => axisEntry_read (drops := drops) found axis value⟩

/-! ### The full resets -/

theorem exec_fullRequest_of_begun {s : State} (begun : resetBegun s = true) :
    exec .fullRequest s = .next (fullReset .fullRequest s) :=
  congrArg Host.Outcome.next (if_pos begun)

theorem exec_fullReset_of_executing {s : State} {r : Request} (executing : s.mga.executing = some r)
    (op : r.op = some .fullReset) : exec .fullReset s = .next (takeFullReset r s) := by
  change execFullReset s = _
  have isReset : r.isOp .fullReset = true := by simp [Request.isOp, op]
  rw [execFullReset, executing]
  exact congrArg Host.Outcome.next (if_pos isReset)

/-- Settles O28: each full reset by its definition, the request by what MGA waits for. -/
theorem fullResetsLeaveResetValues : Obligations.FullResetsLeaveResetValues := by
  unfold Obligations.FullResetsLeaveResetValues
  refine ⟨fun s => ⟨rfl, rfl, rfl, fun waits gone => ?_, fun n waits gone => ?_⟩,
    fun s r ⟨executing, op, addressed⟩ => ?_, fun s r executing op all => ?_, fun s waits => ?_⟩
  · exact exec_fullRequest_of_begun ((resetBegun_iff s).2 (.inl ⟨waits, gone⟩))
  · exact exec_fullRequest_of_begun ((resetBegun_iff s).2 (.inr ⟨n, waits, gone⟩))
  · rw [exec_fullReset_of_executing executing op, takeFullReset]
    simp only [addressed, Bool.false_eq_true, if_false]
    rfl
  · rw [exec_fullReset_of_executing executing op, takeFullReset]
    simp only [all, if_true]
    rfl
  · have notMay : mayBegin s.mga = false := by
      cases wait : s.mga.resetWait with
      | none => exact absurd wait waits
      | some w => simp [mayBegin, wait]
    change execRequestBegin s = _
    refine congrArg Host.Outcome.next ?_
    split
    · rfl
    · simp [notMay]

end Sys2Proof.Machine
end

section
/-! SUPPORT. RESTART: what all blocks together clear (R186), and that they may take it one by one in any order. -/

namespace Sys2Proof.Machine

/-! ### All blocks at once -/

/-- The axes changed one by one are all changed. -/
theorem foldl_modifyAt_all {α : Type} (f : α → α) (v : Vector α 6) :
    allAxes.foldl (fun w a => modifyAt w a f) v = v.map f := by
  have distinct : allAxes.Nodup := by decide
  have every (i : Fin 6) : i ∈ allAxes := by revert i; decide
  have changed (l : List (Fin 6)) (nodup : l.Nodup) (w : Vector α 6) (i : Fin 6) :
      (l.foldl (fun w a => modifyAt w a f) w)[i] = if i ∈ l then f w[i] else w[i] := by
    induction l generalizing w with
    | nil => simp
    | cons a l ih =>
      obtain ⟨fresh, nodup⟩ := List.nodup_cons.1 nodup
      rw [List.foldl_cons, ih nodup, modifyAt_get]
      by_cases same : a = i
      · subst same
        simp [fresh]
      · simp [same, Ne.symm same]
  refine Vector.ext fun i hi => ?_
  have entry := changed allAxes distinct v ⟨i, hi⟩
  rw [if_pos (every _)] at entry
  simpa using entry

/-- R186: what the twelve blocks that take a RESTART leave. -/
theorem foldl_restartBlocks (s : State) : restartBlocks.foldl restartBlock s = { s with
    cpt := restartCpt s.cpt
    axes := s.axes.map restartAxis
    scu := { s.scu with groups := s.scu.groups.map restartGroup }
    cap := restartCap s.cap, rqu := restartRqu s.rqu, fmn := restartFmn s.fmn
    bus := { s.bus with records := [] } } := by
  rw [← foldl_modifyAt_all restartAxis s.axes]
  rfl

theorem settleFairness_of_zero {s : State} (zero : s.cpt.fairness = 0) : s.settleFairness = s := by
  unfold State.settleFairness
  split
  · rfl
  · rw [State.modCpt, ← zero]

theorem exec_restart_of_executing {s : State} {r : Request} (block : Option Block) (executing : s.mga.executing = some r)
    (op : r.op = some .restart) : exec (.restart block) s = .next (takeRestart r block s) := by
  change execRestart block s = _
  have isRestart : r.isOp .restart = true := by simp [Request.isOp, op]
  rw [execRestart, executing]
  exact congrArg Host.Outcome.next (if_pos isRestart)

theorem exec_restart_idle {s : State} {block : Option Block} (idle : s.mga.executing = none) :
    exec (.restart block) s = .next s := by
  change execRestart block s = _
  rw [execRestart, idle]

/-- R186: the blocks that are left take the RESTART and it is answered. -/
theorem takeRestart_none (r : Request) (s : State) : takeRestart r none s =
    endRestart r ((s.mga.restartLeft.foldl restartBlock s).modMga fun m => { m with restartLeft := [] }).settleFairness :=
  rfl

/-! ### In any order -/

theorem modifyAt_comm {α : Type} {n : Nat} (v : Vector α n) (i j : Fin n) (f : α → α) :
    modifyAt (modifyAt v i f) j f = modifyAt (modifyAt v j f) i f := by
  refine Vector.ext fun k hk => ?_
  have entry (a b : Fin n) : (modifyAt (modifyAt v a f) b f)[k]
      = if b = ⟨k, hk⟩ then f (if a = ⟨k, hk⟩ then f v[k] else v[k])
      else if a = ⟨k, hk⟩ then f v[k] else v[k] := by
    have outer := modifyAt_get (modifyAt v a f) b ⟨k, hk⟩ f
    have inner := modifyAt_get v a ⟨k, hk⟩ f
    rw [Fin.getElem_fin, Fin.getElem_fin] at outer
    rw [Fin.getElem_fin, Fin.getElem_fin] at inner
    rw [outer, inner]
  rw [entry, entry]
  split <;> split <;> rfl

/-- Two blocks take the RESTART in either order: each changes its own part. -/
theorem restartBlock_comm (s : State) (a b : Block) :
    restartBlock (restartBlock s a) b = restartBlock (restartBlock s b) a := by
  cases a with
  | axe i =>
    cases b with
    | axe j =>
      simp only [restartBlock, State.modAxis]
      rw [modifyAt_comm]
    | _ => rfl
  | _ => cases b <;> rfl

theorem foldl_restartBlock_erase {l : List Block} {b : Block} (mem : b ∈ l) (s : State) :
    l.foldl restartBlock s = (l.erase b).foldl restartBlock (restartBlock s b) := by
  have comm : RightCommutative restartBlock := ⟨restartBlock_comm⟩
  rw [(List.perm_cons_erase mem).foldl_eq (rcomm := comm), List.foldl_cons]

theorem foldl_restartBlock_modMga (l : List Block) (s : State) (f : Mga → Mga) :
    l.foldl restartBlock (s.modMga f) = (l.foldl restartBlock s).modMga f := by
  induction l generalizing s with
  | nil => rfl
  | cons b l ih =>
    have first : restartBlock (s.modMga f) b = (restartBlock s b).modMga f := by cases b <;> rfl
    rw [List.foldl_cons, first, ih, List.foldl_cons]

/-- R15: the fairness count at 0. -/
theorem restartBlock_setFairness (s : State) (b : Block) :
    restartBlock (setFairness 0 s) b = setFairness 0 (restartBlock s b) := by
  cases b <;> rfl

theorem foldl_restartBlock_setFairness (l : List Block) (s : State) :
    l.foldl restartBlock (setFairness 0 s) = setFairness 0 (l.foldl restartBlock s) := by
  induction l generalizing s with
  | nil => rfl
  | cons b l ih => rw [List.foldl_cons, restartBlock_setFairness, ih, List.foldl_cons]

/-- A block that takes the RESTART brings no insert frame: RQU empties its queue, the others leave it alone. -/
theorem insertWaiting_foldl_restartBlock (l : List Block) {s : State} (none : insertWaiting s = false) :
    insertWaiting (l.foldl restartBlock s) = false := by
  induction l generalizing s with
  | nil => exact none
  | cons b l ih =>
    refine ih ?_
    cases b with
    | rqu =>
      obtain ⟨noResponse, -⟩ := Bool.or_eq_false_iff.1 none
      simp only [insertWaiting, Bool.or_eq_false_iff]
      exact ⟨noResponse, by simp [restartBlock, restartRqu, offerHolds]⟩
    | _ => exact none

theorem settleFairness_eq (s : State) : s.settleFairness = if insertWaiting s then s else setFairness 0 s := rfl

/-- The fairness count settled before the rest of the blocks comes out as when it is settled after them. -/
theorem settleFairness_foldl_restartBlock (l : List Block) (s : State) (f : Mga → Mga)
    (responses : ∀ m, (f m).responses = m.responses) :
    ((l.foldl restartBlock s.settleFairness).modMga f).settleFairness
      = ((l.foldl restartBlock s).modMga f).settleFairness := by
  rw [settleFairness_eq s]
  split
  · rfl
  next idle =>
    have none := insertWaiting_foldl_restartBlock l (Bool.not_eq_true _ ▸ idle)
    have same (u : State) : insertWaiting (u.modMga f) = insertWaiting u := by
      simp only [insertWaiting, State.modMga_mga, responses]
      rfl
    have stillNone : ¬insertWaiting ((l.foldl restartBlock s).modMga f) = true := by rw [same, none]; exact nofun
    have cleared : ¬insertWaiting ((setFairness 0 (l.foldl restartBlock s)).modMga f) = true := stillNone
    rw [foldl_restartBlock_setFairness, settleFairness_eq, settleFairness_eq, if_neg cleared, if_neg stillNone]
    rfl

theorem restartNow_some {l : List Block} (nodup : l.Nodup) {b : Block} (mem : b ∈ l) : restartNow l (some b) = [b] := by
  have once : l.filter (· == b) = List.replicate (l.count b) b := List.filter_beq ..
  rw [restartNow, once, List.count_eq_one_of_mem nodup mem]
  rfl

theorem restartLater_some {l : List Block} (nodup : l.Nodup) (b : Block) : restartLater l (some b) = l.erase b :=
  (nodup.erase_eq_filter b).symm

/-- Settles O29: the blocks together by their twelve effects; one by one because their effects commute and the fairness
count settles to the same. -/
theorem restartClearsMeasurementAndKeepsConfiguration : Obligations.RestartClearsMeasurementAndKeepsConfiguration := by
  unfold Obligations.RestartClearsMeasurementAndKeepsConfiguration
  refine ⟨fun s r executing op all => ?_, fun s t r b executing op nodup mem first => ?_⟩
  · have settled : ((restartBlocks.foldl restartBlock s).modMga fun m => { m with restartLeft := [] }).settleFairness
        = (restartBlocks.foldl restartBlock s).modMga fun m => { m with restartLeft := [] } :=
      settleFairness_of_zero (by rw [foldl_restartBlocks]; rfl)
    rw [exec_restart_of_executing none executing op, takeRestart_none, all, settled, foldl_restartBlocks, endRestart,
      placeAnswer_eq]
    rfl
  · rw [exec_restart_of_executing (some b) executing op] at first
    cases first
    have one : takeRestart r (some b) s = if (s.mga.restartLeft.erase b).isEmpty then
          endRestart r ((restartBlock s b).modMga fun m => { m with restartLeft := s.mga.restartLeft.erase b }).settleFairness
        else ((restartBlock s b).modMga fun m => { m with restartLeft := s.mga.restartLeft.erase b }).settleFairness := by
      unfold takeRestart
      dsimp only
      rw [restartNow_some nodup mem, restartLater_some nodup b]
      rfl
    rw [exec_restart_of_executing none executing op, takeRestart_none, foldl_restartBlock_erase mem, one]
    split
    next last =>
      have none : s.mga.restartLeft.erase b = [] := List.isEmpty_iff.1 last
      rw [none]
      refine exec_restart_idle ?_
      simp [endRestart]
    next =>
      have left : (((restartBlock s b).modMga fun m =>
          { m with restartLeft := s.mga.restartLeft.erase b }).settleFairness).mga
            = { s.mga with restartLeft := s.mga.restartLeft.erase b } := by
        simp
      rw [exec_restart_of_executing (r := r) none (by rw [left]; exact executing) op, takeRestart_none, left]
      dsimp only
      have settles := settleFairness_foldl_restartBlock (s.mga.restartLeft.erase b)
        ((restartBlock s b).modMga fun m => { m with restartLeft := s.mga.restartLeft.erase b })
        (fun m => { m with restartLeft := [] }) fun _ => rfl
      rw [settles, foldl_restartBlock_modMga]
      rfl

end Sys2Proof.Machine
end

section
/-! SUPPORT. SFL: the entry that matches an item is the only one (R27), and what a usable frame delivers (R29 to R35). -/

namespace Sys2Proof.Machine

/-! ### The entries that match -/

/-- The valid entries of a table that satisfy p, in their order. -/
def matching (t : Vector (Option SourceEntry) 16) (p : SourceEntry → Bool) : List SourceEntry :=
  t.toList.filterMap (·.filter p)

theorem findSource_eq (t : Vector (Option SourceEntry) 16) (p : SourceEntry → Bool) :
    findSource t p = t.toList.findSome? (·.filter p) := by
  unfold findSource
  congr 1
  funext e
  cases e <;> rfl

theorem mem_matching {t : Vector (Option SourceEntry) 16} {p : SourceEntry → Bool} {x : SourceEntry} :
    x ∈ matching t p ↔ (∃ i : Fin 16, t[i] = some x) ∧ p x = true := by
  have inTable : some x ∈ t.toList ↔ ∃ i : Fin 16, t[i] = some x := by
    rw [Vector.mem_toList_iff, Vector.mem_iff_getElem]
    constructor
    · rintro ⟨i, hi, at_⟩
      exact ⟨⟨i, hi⟩, at_⟩
    · rintro ⟨i, at_⟩
      exact ⟨i.val, i.isLt, at_⟩
  rw [← inTable, matching, List.mem_filterMap]
  constructor
  · rintro ⟨o, mem, kept⟩
    obtain ⟨rfl, holds⟩ := Option.filter_eq_some_iff.1 kept
    exact ⟨mem, holds⟩
  · rintro ⟨mem, holds⟩
    exact ⟨some x, mem, Option.filter_eq_some_iff.2 ⟨rfl, holds⟩⟩

/-- Two entries of the table that both satisfy p stand at one index. -/
def OnlyOne (t : Vector (Option SourceEntry) 16) (p : SourceEntry → Bool) : Prop :=
  ∀ i j : Fin 16, ∀ x ∈ t[i], ∀ y ∈ t[j], p x = true → p y = true → i = j

/-- With one entry at most, the search finds all there are. -/
theorem matching_eq {t : Vector (Option SourceEntry) 16} {p : SourceEntry → Bool} (one : OnlyOne t p) :
    matching t p = (findSource t p).toList := by
  have apart : t.toList.Pairwise fun a b => ∀ x ∈ a, ∀ y ∈ b, ¬(p x = true ∧ p y = true) := by
    rw [List.pairwise_iff_getElem]
    rintro i j hi hj less x hx y hy ⟨px, py⟩
    rw [Vector.length_toList] at hi hj
    rw [Vector.getElem_toList] at hx hy
    have same := one ⟨i, hi⟩ ⟨j, hj⟩ x hx y hy px py
    exact absurd (Fin.mk.inj same) less.ne
  rw [findSource_eq, matching]
  generalize t.toList = l at apart
  induction l with
  | nil => rfl
  | cons o l ih =>
    obtain ⟨first, rest⟩ := List.pairwise_cons.1 apart
    cases kept : o.filter p with
    | none =>
      rw [List.filterMap_cons_none kept, ih rest, List.findSome?_cons, kept]
    | some x =>
      obtain ⟨isX, px⟩ := Option.filter_eq_some_iff.1 kept
      have none : l.filterMap (·.filter p) = [] := by
        rw [List.filterMap_eq_nil_iff]
        intro b mem
        cases b with
        | none => rfl
        | some y =>
          have notY : ¬p y = true := fun py => first (some y) mem x isX y rfl ⟨px, py⟩
          rw [Option.filter_some, if_neg notY]
      rw [List.filterMap_cons_some kept, none, List.findSome?_cons, kept]
      rfl

theorem mem_findSource {t : Vector (Option SourceEntry) 16} {p : SourceEntry → Bool} (one : OnlyOne t p)
    {x : SourceEntry} : findSource t p = some x ↔ (∃ i : Fin 16, t[i] = some x) ∧ p x = true := by
  rw [← mem_matching, matching_eq one, Option.mem_toList]

/-- R35: the entry found has its forward flag off. -/
theorem keepsFrame_findSource {t : Vector (Option SourceEntry) 16} {p : SourceEntry → Bool} (one : OnlyOne t p) :
    keepsFrame (findSource t p) = true ↔
      ∃ (i : Fin 16) (x : SourceEntry), t[i] = some x ∧ p x = true ∧ x.forward = false := by
  have found : keepsFrame (findSource t p) = true ↔ ∃ x, findSource t p = some x ∧ x.forward = false := by
    cases findSource t p <;> simp [keepsFrame]
  rw [found]
  constructor
  · rintro ⟨x, isFound, off⟩
    obtain ⟨⟨i, at_⟩, holds⟩ := (mem_findSource one).1 isFound
    exact ⟨i, x, at_, holds, off⟩
  · rintro ⟨i, x, at_, holds, off⟩
    exact ⟨x, (mem_findSource one).2 ⟨⟨i, at_⟩, holds⟩, off⟩

/-! ### The three kinds of items -/

theorem matchesPair_iff {station channel : Nat} {e : SourceEntry} : matchesPair station channel e = true ↔
    e.station = station ∧ e.channel = channel ∧ ∃ a n, e.kind = .samplePair a n := by
  unfold matchesPair
  split
  next kind => simp [kind]
  next other =>
    simp only [Bool.false_eq_true, false_iff, not_and, not_exists]
    exact fun _ _ a n kind => other a n kind

theorem matchesMarker_iff {station channel : Nat} {e : SourceEntry} : matchesMarker station channel e = true ↔
    e.station = station ∧ e.channel = channel ∧ ∃ m r, e.kind = .marker m r := by
  unfold matchesMarker
  split
  next kind => simp [kind]
  next other =>
    simp only [Bool.false_eq_true, false_iff, not_and, not_exists]
    exact fun _ _ m r kind => other m r kind

theorem matchesEnvironment_iff {station : Nat} {e : SourceEntry} :
    matchesEnvironment station e = true ↔ e.station = station ∧ e.kind = .environment := by
  unfold matchesEnvironment
  split
  next kind => simp [kind]
  next other =>
    simp only [Bool.false_eq_true, false_iff, not_and]
    exact fun _ kind => other kind

section
variable {s : State}

/-- Entries that clash stand at one index (R27). -/
theorem onlyOne_of_clash {p : SourceEntry → Bool} (unique : s.sourcesUnique)
    (clash : ∀ x y, (∃ i : Fin 16, s.sfl.table[i] = some x) →
      (∃ i : Fin 16, s.sfl.table[i] = some y) → p x = true →
      p y = true → entriesClash x y = true) : OnlyOne s.sfl.table p := by
  intro i j x hx y hy px py
  by_contra apart
  have clashes := clash x y ⟨i, hx⟩ ⟨j, hy⟩ px py
  rw [unique i j apart x hx y hy] at clashes
  cases clashes

theorem onlyOne_pair (unique : s.sourcesUnique) (station channel : Nat) :
    OnlyOne s.sfl.table (matchesPair station channel) := by
  refine onlyOne_of_clash unique fun x y _ _ px py => (entriesClash_iff x y).2 (.inl ?_)
  obtain ⟨xStation, xChannel, a, n, xKind⟩ := matchesPair_iff.1 px
  obtain ⟨yStation, yChannel, b, m, yKind⟩ := matchesPair_iff.1 py
  exact ⟨a, b, n, m, xKind, yKind, .inl ⟨xStation.trans yStation.symm, xChannel.trans yChannel.symm⟩⟩

theorem onlyOne_marker (unique : s.sourcesUnique) (station channel : Nat) :
    OnlyOne s.sfl.table (matchesMarker station channel) := by
  refine onlyOne_of_clash unique fun x y _ _ px py => (entriesClash_iff x y).2 (.inr (.inl ?_))
  obtain ⟨xStation, xChannel, m, r, xKind⟩ := matchesMarker_iff.1 px
  obtain ⟨yStation, yChannel, n, q, yKind⟩ := matchesMarker_iff.1 py
  exact ⟨m, n, r, q, xKind, yKind, .inl ⟨xStation.trans yStation.symm, xChannel.trans yChannel.symm⟩⟩

theorem onlyOne_environment (unique : s.sourcesUnique) (ranged : s.sourcesInRange) (station : Nat) :
    OnlyOne s.sfl.table (matchesEnvironment station) := by
  refine onlyOne_of_clash unique fun x y xIn yIn px py => (entriesClash_iff x y).2 (.inr (.inr ?_))
  obtain ⟨xStation, xKind⟩ := matchesEnvironment_iff.1 px
  obtain ⟨yStation, yKind⟩ := matchesEnvironment_iff.1 py
  have zero {e : SourceEntry} (inTable : ∃ i : Fin 16, s.sfl.table[i] = some e) (kind : e.kind = .environment) :
      e.channel = 0 := by
    obtain ⟨i, at_⟩ := inTable
    obtain ⟨-, -, channel⟩ := ranged i e at_
    rw [kind] at channel
    exact channel
  exact ⟨xKind, yKind, xStation.trans yStation.symm, (zero xIn xKind).trans (zero yIn yKind).symm⟩

end

/-! ### SAMPLE frames -/

/-- R31, R32: what pair j brings to axis a by the entry x that matches it. -/
def deliveredTo (p : List Byte) (j : Nat) (a : AxisId) (x : SourceEntry) : List SampleMsg :=
  match x.kind with
  | .samplePair b n => if b = a ∧ n = headPeriod p then samplesOf p j else []
  | _ => []

/-- R31: PERIOD_MISMATCH of a pair matched by the entry x. -/
def mismatchOf (p : List Byte) (x : SourceEntry) : List RaiseMsg :=
  match x.kind with
  | .samplePair a n =>
      if n ≠ headPeriod p then [⟨.sfl, .periodMismatch, a.val, BitVec.ofNat 32 (headPeriod p * 65536 + n), 0⟩] else []
  | _ => []

theorem deliverPair_bus (p : List Byte) (j : Nat) (b : AxisId) (n : Nat) (s : State) {x : SourceEntry}
    (kind : x.kind = .samplePair b n) :
    (∀ a : AxisId, (deliverPair p j b n s).bus.samples[a] = s.bus.samples[a] ++ deliveredTo p j a x)
      ∧ (deliverPair p j b n s).bus.raises = s.bus.raises ++ mismatchOf p x
      ∧ deliverPair p j b n s = { s with bus := { s.bus with
        samples := (deliverPair p j b n s).bus.samples, raises := (deliverPair p j b n s).bus.raises } } := by
  have delivered (a : AxisId) : deliveredTo p j a x = if b = a ∧ n = headPeriod p then samplesOf p j else [] := by
    rw [deliveredTo, kind]
  have mismatch : mismatchOf p x = if n ≠ headPeriod p then
      [⟨.sfl, .periodMismatch, b.val, BitVec.ofNat 32 (headPeriod p * 65536 + n), 0⟩] else [] := by
    rw [mismatchOf, kind]
  by_cases period : headPeriod p = n
  · have out : deliverPair p j b n s =
        s.modBus fun c => { c with samples := modifyAt c.samples b (· ++ samplesOf p j) } := if_pos period
    rw [out, mismatch, if_neg (not_not.2 period.symm)]
    refine ⟨fun a => ?_, (List.append_nil _).symm, rfl⟩
    rw [delivered]
    refine (modifyAt_get s.bus.samples b a _).trans ?_
    by_cases same : b = a <;> simp [same, period]
  · have out : deliverPair p j b n s = s.raise .sfl .periodMismatch b.val (headPeriod p * 65536 + n) := if_neg period
    rw [out, mismatch, if_pos (Ne.symm period), raise_eq_raised]
    refine ⟨fun a => ?_, congrArg (s.bus.raises ++ [·]) (congrArg (RaiseMsg.mk _ _ _ · _) ?_), rfl⟩
    · rw [delivered, if_neg fun both => period both.2.symm]
      exact (List.append_nil _).symm
    · rw [← BitVec.ofInt_natCast]
      push_cast
      rfl

theorem takePair_bus (station : Nat) (p : List Byte) (s : State) (j : Nat) :
    (∀ a : AxisId, (takePair station p s j).bus.samples[a] = s.bus.samples[a]
        ++ (findSource s.sfl.table (matchesPair station j)).toList.flatMap (deliveredTo p j a))
      ∧ (takePair station p s j).bus.raises = s.bus.raises
        ++ (findSource s.sfl.table (matchesPair station j)).toList.flatMap (mismatchOf p)
      ∧ takePair station p s j = { s with bus := { s.bus with
        samples := (takePair station p s j).bus.samples, raises := (takePair station p s j).bus.raises } } := by
  unfold takePair
  generalize findSource s.sfl.table (matchesPair station j) = found
  split
  next b n =>
    obtain ⟨samples, raises, state⟩ := deliverPair_bus p j b n s (x := ⟨_, _, _, .samplePair b n⟩) rfl
    exact ⟨fun a => by simpa using samples a, by simpa using raises, state⟩
  next other =>
    rcases found with _ | ⟨e, forward, channel, kind⟩
    · simp
    · cases kind with
      | samplePair a n => exact absurd rfl (other _ _ _ _ _)
      | _ => simp [deliveredTo, mismatchOf]

theorem foldl_takePair_bus (station : Nat) (p : List Byte) (l : List Nat) (s : State) :
    (∀ a : AxisId, (l.foldl (takePair station p) s).bus.samples[a] = s.bus.samples[a] ++ l.flatMap fun j =>
        (findSource s.sfl.table (matchesPair station j)).toList.flatMap (deliveredTo p j a))
      ∧ (l.foldl (takePair station p) s).bus.raises = s.bus.raises ++ l.flatMap (fun j =>
        (findSource s.sfl.table (matchesPair station j)).toList.flatMap (mismatchOf p))
      ∧ l.foldl (takePair station p) s = { s with bus := { s.bus with
        samples := (l.foldl (takePair station p) s).bus.samples
        raises := (l.foldl (takePair station p) s).bus.raises } } := by
  induction l generalizing s with
  | nil => simp
  | cons j l ih =>
    obtain ⟨samples, raises, state⟩ := takePair_bus station p s j
    have table : (takePair station p s j).sfl = s.sfl := by rw [state]
    obtain ⟨laterSamples, laterRaises, laterState⟩ := ih (takePair station p s j)
    rw [table] at laterSamples laterRaises
    refine ⟨fun a => ?_, ?_, ?_⟩
    · rw [List.foldl_cons, laterSamples, samples, List.flatMap_cons, List.append_assoc]
    · rw [List.foldl_cons, laterRaises, raises, List.flatMap_cons, List.append_assoc]
    · rw [List.foldl_cons, laterState, state]

/-- The search brings to axis a what the table feeds it from pair j. -/
theorem delivered_iff_feeds {s : State} (unique : s.sourcesUnique) (station : Nat) (p : List Byte) (j : Nat)
    (a : AxisId) [Decidable (feeds s station j a (headPeriod p))] :
    (findSource s.sfl.table (matchesPair station j)).toList.flatMap (deliveredTo p j a)
      = if feeds s station j a (headPeriod p) then samplesOf p j else [] := by
  have one := onlyOne_pair unique station j
  split
  next fed =>
    obtain ⟨i, forward, at_⟩ := fed
    rw [(mem_findSource one).2 ⟨⟨i, at_⟩, matchesPair_iff.2 ⟨rfl, rfl, a, _, rfl⟩⟩]
    simp [deliveredTo]
  next notFed =>
    cases found : findSource s.sfl.table (matchesPair station j) with
    | none => rfl
    | some x =>
      obtain ⟨⟨i, at_⟩, holds⟩ := (mem_findSource one).1 found
      obtain ⟨rfl, rfl, b, n, kind⟩ := matchesPair_iff.1 holds
      have notHere : ¬(b = a ∧ n = headPeriod p) := by
        rintro ⟨rfl, rfl⟩
        refine notFed ⟨i, x.forward, at_.trans (congrArg some ?_)⟩
        rw [← kind]
      simp [deliveredTo, kind, notHere]

/-- What the entries that match bring, read off the table index by index. -/
theorem flatMap_matching {α : Type} (t : Vector (Option SourceEntry) 16) (p : SourceEntry → Bool)
    (f : SourceEntry → List α) : (matching t p).flatMap f =
      (List.finRange 16).flatMap fun i => (t[i].filter p).toList.flatMap f := by
  have table : t.toList = (List.finRange 16).map (t[·]) := by
    refine List.ext_getElem (by simp) fun i _ _ => ?_
    simp
  rw [matching, table, List.filterMap_map, List.filterMap_eq_flatMap_toList, List.flatMap_assoc]
  rfl

/-- R35: which SAMPLE frames are consumed. -/
theorem sampleConsumed_iff {s : State} (unique : s.sourcesUnique) (station : Nat) (p : List Byte) :
    sampleConsumed s.sfl.table station p = true ↔
      sampleUsable p = true ∧ ∃ j, j < pairCount p ∧ ∃ (i : Fin 16) (a : AxisId) (n : Nat),
        s.sfl.table[i] = some ⟨station, j, false, .samplePair a n⟩ := by
  rw [sampleConsumed, Bool.and_eq_true, List.any_eq_true]
  refine and_congr_right fun _ => exists_congr fun j => and_congr List.mem_range ?_
  rw [keepsFrame_findSource (onlyOne_pair unique station j)]
  constructor
  · rintro ⟨i, ⟨st, ch, f, k⟩, at_, holds, off⟩
    obtain ⟨isStation, isChannel, a, n, kind⟩ := matchesPair_iff.1 holds
    dsimp only at isStation isChannel kind off
    subst isStation isChannel kind off
    exact ⟨i, a, n, at_⟩
  · rintro ⟨i, a, n, at_⟩
    exact ⟨i, _, at_, matchesPair_iff.2 ⟨rfl, rfl, a, n, rfl⟩, rfl⟩

theorem forwardUnless_consumed (b : List Byte) (s : State) : forwardUnless true b s = s := rfl

theorem forwardUnless_not (b : List Byte) (s : State) : forwardUnless false b s = offered b none s :=
  offerForward_eq_offered b none s

/-- R31: the mismatches of one entry of the table, by its fields. -/
theorem mismatchOf_filter (station j : Nat) (p : List Byte) (o : Option SourceEntry) :
    (o.filter (matchesPair station j)).toList.flatMap (mismatchOf p) = match o with
      | some { station := st, channel := ch, kind := .samplePair a n, .. } =>
          if st = station ∧ ch = j ∧ n ≠ headPeriod p then
            [⟨.sfl, .periodMismatch, a.val, BitVec.ofNat 32 (headPeriod p * 65536 + n), 0⟩]
          else []
      | _ => [] := by
  rcases o with _ | ⟨st, ch, f, kind⟩
  · rfl
  · cases kind with
    | samplePair a n =>
      by_cases here : st = station ∧ ch = j
      · simp [Option.filter, matchesPair, mismatchOf, here]
      · by_cases sameStation : st = station <;> simp_all [Option.filter, matchesPair]
    | _ => rfl

theorem handleAssigned_of_sample {b : List Byte} (kind : frameKind b = 3) (s : State) :
    handleAssigned b s = takeSample b s := by
  unfold handleAssigned
  rw [kind]
  rfl

theorem handleAssigned_of_marker {b : List Byte} (kind : frameKind b = 4) (s : State) :
    handleAssigned b s = takeMarker b s := by
  unfold handleAssigned
  rw [kind]
  rfl

theorem handleAssigned_of_environment {b : List Byte} (kind : frameKind b = 5) (s : State) :
    handleAssigned b s = takeEnvironment b s := by
  unfold handleAssigned
  rw [kind]
  rfl

/-- Settles O22: each pair is delivered by the one entry that matches it. -/
theorem sampleFramesDeliverMatchedPairs : Obligations.SampleFramesDeliverMatchedPairs := by
  unfold Obligations.SampleFramesDeliverMatchedPairs
  intro b s good station unique p consumed mismatches
  let t := if sampleUsable p then (List.range (pairCount p)).foldl (takePair (frameSource b) p) (counted s)
    else counted s
  have sameTable : (counted s).sfl = s.sfl := by rw [counted_state]
  have sameSamples : (counted s).bus.samples = s.bus.samples := by rw [counted_state]
  have sameRaises : (counted s).bus.raises = s.bus.raises := by rw [counted_state]
  obtain ⟨handled, kind⟩ := receive_assigned good station
  have taken : receive b s = forwardUnless (sampleConsumed s.sfl.table (frameSource b) p) b t := by
    rw [handled, handleAssigned_of_sample kind, takeSample, sameTable]
  have isConsumed := sampleConsumed_iff unique (frameSource b) p
  obtain ⟨samples, raises, state⟩ := foldl_takePair_bus (frameSource b) p (List.range (pairCount p)) (counted s)
  rw [sameTable] at samples raises
  refine ⟨t, fun c => congrArg Host.Outcome.next ?_, fun c => congrArg Host.Outcome.next ?_, fun a => ?_, ?_, ?_⟩
  · rw [taken, isConsumed.2 c, forwardUnless_consumed]
  · rw [taken, Bool.eq_false_iff.2 (mt isConsumed.1 c), forwardUnless_not]
  · cases usable : sampleUsable p with
    | false => simp [t, usable, sameSamples]
    | true =>
      have whole : t = (List.range (pairCount p)).foldl (takePair (frameSource b) p) (counted s) := if_pos usable
      rw [whole, samples, sameSamples]
      refine congrArg (s.bus.samples[a] ++ ·) ((List.flatMap_congr fun j _ => ?_).trans (if_pos rfl).symm)
      exact delivered_iff_feeds unique (frameSource b) p j a
  · cases usable : sampleUsable p with
    | false => simp [t, usable, sameRaises]
    | true =>
      have whole : t = (List.range (pairCount p)).foldl (takePair (frameSource b) p) (counted s) := if_pos usable
      rw [whole, raises, sameRaises]
      refine congrArg (s.bus.raises ++ ·) ((List.flatMap_congr fun j _ => ?_).trans (if_pos rfl).symm)
      rw [← matching_eq (onlyOne_pair unique (frameSource b) j), flatMap_matching]
      refine List.flatMap_congr fun i _ => ?_
      exact mismatchOf_filter (frameSource b) j p _
  · cases usable : sampleUsable p with
    | false => simp [t, usable]
    | true =>
      have whole : t = (List.range (pairCount p)).foldl (takePair (frameSource b) p) (counted s) := if_pos usable
      rw [whole]
      exact state

/-! ### MARKER frames -/

/-- R33: the event that event e of the frame becomes by the entry x that matches it. -/
def eventOf (p : List Byte) (e : Nat) (x : SourceEntry) : Option MarkerMsg :=
  match x.kind with
  | .marker m r => some ⟨m, if field p (2 + 8 * e) 1 = 0 then .rise else .fall, timeField p (3 + 8 * e), r⟩
  | _ => none

theorem eventOf_filter (station : Nat) (p : List Byte) (e : Nat) (o : Option SourceEntry) :
    (o.filter (matchesMarker station (field p (1 + 8 * e) 1))).bind (eventOf p e) = match o with
      | some { station := st, channel := c, kind := .marker m r, .. } =>
          if st = station ∧ c = field p (1 + 8 * e) 1 then
            some ⟨m, if field p (2 + 8 * e) 1 = 0 then .rise else .fall, timeField p (3 + 8 * e), r⟩
          else none
      | _ => none := by
  rcases o with _ | ⟨st, ch, f, kind⟩
  · rfl
  · cases kind with
    | marker m r =>
      by_cases here : st = station ∧ ch = field p (1 + 8 * e) 1
      · simp [Option.filter, matchesMarker, eventOf, here]
      · by_cases sameStation : st = station <;> simp_all [Option.filter, matchesMarker]
    | _ => rfl

/-- R33: the events of event e are those of the entry found. -/
theorem eventsOf_eq {s : State} (unique : s.sourcesUnique) (station : Nat) (p : List Byte) (e : Nat) :
    eventsOf s station p e = ((markerEntry s.sfl.table station p e).bind (eventOf p e)).toList := by
  unfold eventsOf markerEntry
  split
  next known =>
    have one := onlyOne_marker unique station (field p (1 + 8 * e) 1)
    have found : ((findSource s.sfl.table (matchesMarker station (field p (1 + 8 * e) 1))).bind (eventOf p e)).toList
        = (matching s.sfl.table (matchesMarker station (field p (1 + 8 * e) 1))).filterMap (eventOf p e) := by
      rw [matching_eq one]
      cases findSource s.sfl.table (matchesMarker station (field p (1 + 8 * e) 1)) with
      | none => rfl
      | some x => cases h : eventOf p e x <;> simp [h]
    rw [found, matching, List.filterMap_filterMap]
    exact List.filterMap_congr fun o _ => (eventOf_filter station p e o).symm
  next => rfl

theorem takeEvent_eq {s : State} (unique : s.sourcesUnique) (station : Nat) (p : List Byte) (e : Nat) :
    takeEvent station p s e = s.modBus fun b => { b with markers := b.markers ++ eventsOf s station p e } := by
  rw [eventsOf_eq unique]
  unfold takeEvent
  generalize markerEntry s.sfl.table station p e = found
  split
  next => rfl
  next other =>
    rcases found with _ | ⟨st, ch, f, kind⟩
    · simp [State.modBus]
    · cases kind with
      | marker m r => exact absurd rfl (other _ _ _ _ _)
      | _ => simp [eventOf, State.modBus]

theorem foldl_takeEvent (station : Nat) (p : List Byte) (l : List Nat) {s : State} (unique : s.sourcesUnique) :
    l.foldl (takeEvent station p) s =
      s.modBus fun b => { b with markers := b.markers ++ l.flatMap (eventsOf s station p) } := by
  induction l generalizing s with
  | nil => simp [State.modBus]
  | cons e l ih =>
    have later : (s.modBus fun b => { b with markers := b.markers ++ eventsOf s station p e }).sourcesUnique := unique
    rw [List.foldl_cons, takeEvent_eq unique, ih later, List.flatMap_cons]
    simp only [State.modBus, ← List.append_assoc]
    rfl

/-- R35: which MARKER frames are consumed. -/
theorem markerConsumed_iff {s : State} (unique : s.sourcesUnique) (station : Nat) (p : List Byte) :
    markerConsumed s.sfl.table station p = true ↔
      markerUsable p = true ∧ ∃ e, e < field p 0 1 ∧ field p (2 + 8 * e) 1 ≤ 1 ∧ field p (1 + 8 * e) 1 ≤ 7
        ∧ ∃ (i : Fin 16) (m : Fin 8) (r : Option AxisId),
          s.sfl.table[i] = some ⟨station, field p (1 + 8 * e) 1, false, .marker m r⟩ := by
  rw [markerConsumed, Bool.and_eq_true, List.any_eq_true]
  refine and_congr_right fun _ => exists_congr fun e => and_congr List.mem_range ?_
  rw [markerEntry, ← and_assoc]
  split
  next known =>
    rw [keepsFrame_findSource (onlyOne_marker unique station _), and_iff_right known]
    constructor
    · rintro ⟨i, ⟨st, ch, f, k⟩, at_, holds, off⟩
      obtain ⟨isStation, isChannel, m, r, kind⟩ := matchesMarker_iff.1 holds
      dsimp only at isStation isChannel kind off
      subst isStation isChannel kind off
      exact ⟨i, m, r, at_⟩
    · rintro ⟨i, m, r, at_⟩
      exact ⟨i, _, at_, matchesMarker_iff.2 ⟨rfl, rfl, m, r, rfl⟩, rfl⟩
  next unknown => exact ⟨fun keeps => absurd keeps (by simp [keepsFrame]), fun both => absurd both.1 unknown⟩

/-! ### ENVIRONMENT frames -/

theorem takeValue_eq (p : List Byte) (s : State) (k : Nat) : takeValue p s k = s.modBus fun b => { b with
    envValues := b.envValues ++ valuesOf p k
    reports := b.reports ++ (valuesOf p k).map fun _ => ⟨.sfl, .environmentValues, 0⟩ } := by
  unfold takeValue valuesOf
  cases finOf 4 (field p (1 + 5 * k) 1) with
  | none => simp [State.modBus]
  | some g => rfl

theorem foldl_takeValue (p : List Byte) (l : List Nat) (s : State) : l.foldl (takeValue p) s =
    s.modBus fun b => { b with
      envValues := b.envValues ++ l.flatMap (valuesOf p)
      reports := b.reports ++ (l.flatMap (valuesOf p)).map fun _ => ⟨.sfl, .environmentValues, 0⟩ } := by
  induction l generalizing s with
  | nil => simp [State.modBus]
  | cons k l ih =>
    rw [List.foldl_cons, takeValue_eq, ih, List.flatMap_cons, List.map_append]
    simp only [State.modBus, ← List.append_assoc]

/-- R34: the station has an ENVIRONMENT entry. -/
theorem isSome_findSource_environment {s : State} (unique : s.sourcesUnique) (ranged : s.sourcesInRange)
    (station : Nat) : (findSource s.sfl.table (matchesEnvironment station)).isSome = true ↔
      ∃ (i : Fin 16) (c : Nat) (f : Bool), s.sfl.table[i] = some ⟨station, c, f, .environment⟩ := by
  rw [Option.isSome_iff_exists]
  simp only [mem_findSource (onlyOne_environment unique ranged station)]
  constructor
  · rintro ⟨⟨st, c, f, k⟩, ⟨i, at_⟩, holds⟩
    obtain ⟨isStation, kind⟩ := matchesEnvironment_iff.1 holds
    dsimp only at isStation kind
    subst isStation kind
    exact ⟨i, c, f, at_⟩
  · rintro ⟨i, c, f, at_⟩
    exact ⟨_, ⟨i, at_⟩, matchesEnvironment_iff.2 ⟨rfl, rfl⟩⟩

/-- R35: which ENVIRONMENT frames are consumed. -/
theorem environmentConsumed_iff {s : State} (unique : s.sourcesUnique) (ranged : s.sourcesInRange) (station : Nat)
    (p : List Byte) : environmentConsumed s.sfl.table station p = true ↔ environmentUsable p = true
      ∧ (∃ (i : Fin 16) (c : Nat), s.sfl.table[i] = some ⟨station, c, false, .environment⟩)
      ∧ ∃ k, k < field p 0 1 ∧ field p (1 + 5 * k) 1 < 4 := by
  rw [environmentConsumed, Bool.and_eq_true, Bool.and_eq_true, and_assoc, List.any_eq_true,
    keepsFrame_findSource (onlyOne_environment unique ranged station)]
  refine and_congr_right fun _ => and_congr ?_ (exists_congr fun k => and_congr List.mem_range decide_eq_true_iff)
  constructor
  · rintro ⟨i, ⟨st, c, f, k⟩, at_, holds, off⟩
    obtain ⟨isStation, kind⟩ := matchesEnvironment_iff.1 holds
    dsimp only at isStation kind off
    subst isStation kind off
    exact ⟨i, c, at_⟩
  · rintro ⟨i, c, at_⟩
    exact ⟨i, _, at_, matchesEnvironment_iff.2 ⟨rfl, rfl⟩, rfl⟩

/-- Settles O23: event by event and value by value. -/
theorem markerAndEnvironmentFramesHandWhatTheyCarry : Obligations.MarkerAndEnvironmentFramesHandWhatTheyCarry := by
  unfold Obligations.MarkerAndEnvironmentFramesHandWhatTheyCarry
  constructor
  · intro b s good station unique p consumed handed t
    have sameTable : (counted s).sfl = s.sfl := by rw [counted_state]
    have sameUnique : (counted s).sourcesUnique := by
      rw [State.sourcesUnique, sameTable]
      exact unique
    have sameEvents : eventsOf (counted s) = eventsOf s := by
      unfold eventsOf
      rw [sameTable]
    have sameMarkers : (counted s).bus.markers = s.bus.markers := by rw [counted_state]
    obtain ⟨handledBy, kind⟩ := receive_assigned good station
    have delivered : (if markerUsable p then (List.range (field p 0 1)).foldl (takeEvent (frameSource b) p) (counted s)
        else counted s) = t := by
      simp only [t, handed, ← sameMarkers]
      split
      next => rw [foldl_takeEvent _ _ _ sameUnique, sameEvents]; rfl
      next => simp
    have taken : receive b s = forwardUnless (markerConsumed s.sfl.table (frameSource b) p) b t := by
      rw [handledBy, handleAssigned_of_marker kind, takeMarker, sameTable, ← delivered]
    have isConsumed := markerConsumed_iff unique (frameSource b) p
    refine ⟨fun c => congrArg Host.Outcome.next ?_, fun c => congrArg Host.Outcome.next ?_⟩
    · rw [taken, isConsumed.2 c, forwardUnless_consumed]
    · rw [taken, Bool.eq_false_iff.2 (mt isConsumed.1 c), forwardUnless_not]
  · intro b s good station unique ranged p known consumed values t
    have sameTable : (counted s).sfl = s.sfl := by rw [counted_state]
    have sameValues : (counted s).bus.envValues = s.bus.envValues := by rw [counted_state]
    obtain ⟨handledBy, kind⟩ := receive_assigned good station
    have taken : receive b s = forwardUnless (environmentConsumed s.sfl.table (frameSource b) p) b
        (if environmentUsable p && (findSource s.sfl.table (matchesEnvironment (frameSource b))).isSome
          then (List.range (field p 0 1)).foldl (takeValue p) (counted s) else counted s) := by
      rw [handledBy, handleAssigned_of_environment kind, takeEnvironment, sameTable]
    have isKnown := isSome_findSource_environment unique ranged (frameSource b)
    have isConsumed := environmentConsumed_iff unique ranged (frameSource b) p
    have delivered : (List.range (field p 0 1)).foldl (takeValue p) (counted s) = t := by
      rw [foldl_takeValue]
      simp only [t, ← sameValues]
      rfl
    refine ⟨fun c => congrArg Host.Outcome.next ?_, fun usable has c => congrArg Host.Outcome.next ?_,
      fun none => congrArg Host.Outcome.next ?_⟩
    · obtain ⟨usable, ⟨i, ch, at_⟩, -⟩ := id c
      rw [taken, isConsumed.2 c, forwardUnless_consumed, if_pos, delivered]
      rw [usable, isKnown.2 ⟨i, ch, _, at_⟩]
      rfl
    · rw [taken, Bool.eq_false_iff.2 (mt isConsumed.1 c), forwardUnless_not, if_pos, delivered]
      rw [usable, isKnown.2 has]
      rfl
    · have notBoth : ¬(environmentUsable p && (findSource s.sfl.table (matchesEnvironment (frameSource b))).isSome)
          = true := by
        rw [Bool.and_eq_true, isKnown]
        rintro ⟨usable, has⟩
        rcases none with off | unknown
        · exact absurd usable (by simp [off])
        · exact unknown has
      have notConsumed : ¬consumed := by
        rintro ⟨usable, ⟨i, ch, at_⟩, -⟩
        rcases none with off | unknown
        · exact absurd usable (by simp [off])
        · exact unknown ⟨i, ch, _, at_⟩
      rw [taken, Bool.eq_false_iff.2 (mt isConsumed.1 notConsumed), forwardUnless_not, if_neg notBoth]

end Sys2Proof.Machine
end

section
/-! SUPPORT. MGA: how a request is begun (R175 to R178), and the state an answer leaves. -/

namespace Sys2Proof.Machine

/-! ### The state an answer leaves -/

section
variable {a : Answer} {r : Request}

theorem place_of_refuses (addressed : r.broadcast = false) (refuses : statusRefuses a.status = true) : a.place r =
    { a.state with mga := answered a.state.mga r a.status a.data, bus := refusalReported a.state.bus } := by
  simp [Answer.place, placeAnswer_eq, addressed, refuses, responseTo, answered, refusalReported]

theorem place_of_not_refuses (addressed : r.broadcast = false) (accepts : statusRefuses a.status = false) :
    a.place r = { a.state with mga := answered a.state.mga r a.status a.data } := by
  simp [Answer.place, placeAnswer_eq, addressed, accepts, responseTo, answered]

end

theorem isOp_iff {op : RequestOp} {r : Request} : r.isOp op = true ↔ r.op = some op := by
  simp [Request.isOp]

theorem isWrite_iff {n : Nat} {r : Request} : r.isWrite n = true ↔ r.op = some .writeTable ∧ r.subject = n := by
  simp [Request.isWrite, isOp_iff]

section
variable {s : State} {r : Request} {owner : Request → State → Answer}

/-- The owner of the request being executed takes it. -/
theorem serve_executing {op : RequestOp} (h : Executing s op r) : serve (·.isOp op) owner s = (owner r s).place r :=
  serve_mine h.1 (isOp_iff.2 h.2.1)

theorem serve_writing {n : Nat} (h : Writing s n r) : serve (·.isWrite n) owner s = (owner r s).place r :=
  serve_mine h.1.1 (isWrite_iff.2 ⟨h.1.2.1, h.2⟩)

/-- A request on an axis of 0 … 5 is its act's. -/
theorem onAxis_some {act : AxisId → Request → State → Answer} {i : AxisId} (h : r.axis = some i) (s : State) :
    onAxis act r s = act i r s := by
  simp only [onAxis, h]

/-- A request on another axis number is refused (R179). -/
theorem onAxis_none {act : AxisId → Request → State → Answer} (h : 5 < r.subject) (s : State) :
    onAxis act r s = plain s .refusedRange := by
  have none : r.axis = Option.none := finOf_eq_none.2 h
  simp only [onAxis, none]

end

/-! ### Beginning a request -/

theorem maskUndefined_iff {mask : Nat} : maskUndefined mask = true ↔ mask.testBit 0 = true ∨ 67108864 ≤ mask := by
  simp [maskUndefined]

theorem maskUndefined_eq_false_iff {mask : Nat} :
    maskUndefined mask = false ↔ mask.testBit 0 = false ∧ mask < 67108864 := by
  rw [← Bool.not_eq_true, maskUndefined_iff, not_or, Bool.not_eq_true, Nat.not_le]

section
variable {controller : Nat} {r : Request} {op : RequestOp}

/-- R177: the request's source is the controlling station, 1 … 250. -/
theorem fromController_iff : (r.source == controller && decide (1 ≤ r.source) && decide (r.source ≤ 250)) = true ↔
    r.source = controller ∧ 1 ≤ r.source ∧ r.source ≤ 250 := by
  simp [and_assoc]

/-- R176, R177, R182: the request passes MGA's own checks. -/
theorem beginRefusal_eq_none (args : neededArgs op ≤ r.args.length)
    (mask : op = .clearErrors → (field r.args 0 4).testBit 0 = false ∧ field r.args 0 4 < 67108864)
    (table : op = .writeTable → 1 ≤ r.subject ∧ r.subject ≤ 12)
    (access : anyStation op = true ∨ (r.source = controller ∧ 1 ≤ r.source ∧ r.source ≤ 250)) :
    beginRefusal controller r op = none := by
  have maskFine : ¬(op == .clearErrors && maskUndefined (field r.args 0 4)) = true := by
    rw [Bool.and_eq_true, beq_iff_eq]
    rintro ⟨isClear, undefined⟩
    exact absurd undefined (by rw [maskUndefined_eq_false_iff.2 (mask isClear)]; decide)
  have accessFine : ¬(!anyStation op && !(r.source == controller && decide (1 ≤ r.source) && decide (r.source ≤ 250)))
      = true := by
    rw [Bool.and_eq_true, Bool.not_eq_true', Bool.not_eq_true', ← Bool.not_eq_true, ← Bool.not_eq_true,
      fromController_iff]
    rintro ⟨restricted, other⟩
    exact access.elim restricted other
  have tableFine : ¬(op == .writeTable && (r.subject == 0 || decide (12 < r.subject))) = true := by
    rw [Bool.and_eq_true, Bool.or_eq_true, beq_iff_eq, beq_iff_eq, decide_eq_true_iff]
    rintro ⟨isWrite, outside⟩
    have := table isWrite
    omega
  rw [beginRefusal, if_neg (Nat.not_lt.2 args), if_neg maskFine, if_neg accessFine, if_neg tableFine]

/-- R176: too few argument bytes. -/
theorem beginRefusal_short (short : r.args.length < neededArgs op) :
    beginRefusal controller r op = some .refusedRange :=
  if_pos short

/-- R179, R192: an undefined bit in a CLEAR ERRORS mask. -/
theorem beginRefusal_mask (isClear : op = .clearErrors) (args : neededArgs op ≤ r.args.length)
    (undefined : (field r.args 0 4).testBit 0 = true ∨ 67108864 ≤ field r.args 0 4) :
    beginRefusal controller r op = some .refusedRange := by
  have names : (op == .clearErrors && maskUndefined (field r.args 0 4)) = true := by
    rw [Bool.and_eq_true, beq_iff_eq]
    exact ⟨isClear, maskUndefined_iff.2 undefined⟩
  rw [beginRefusal, if_neg (Nat.not_lt.2 args), if_pos names]

/-- R177: a state-changing request of another station. -/
theorem beginRefusal_denied (restricted : anyStation op = false) (args : neededArgs op ≤ r.args.length)
    (mask : op = .clearErrors → (field r.args 0 4).testBit 0 = false ∧ field r.args 0 4 < 67108864)
    (other : r.source ≠ controller ∨ r.source = 0 ∨ 250 < r.source) :
    beginRefusal controller r op = some .denied := by
  have maskFine : ¬(op == .clearErrors && maskUndefined (field r.args 0 4)) = true := by
    rw [Bool.and_eq_true, beq_iff_eq]
    rintro ⟨isClear, undefined⟩
    exact absurd undefined (by rw [maskUndefined_eq_false_iff.2 (mask isClear)]; decide)
  have denied : (!anyStation op && !(r.source == controller && decide (1 ≤ r.source) && decide (r.source ≤ 250)))
      = true := by
    rw [Bool.and_eq_true, Bool.not_eq_true', Bool.not_eq_true', ← Bool.not_eq_true (_ && _), fromController_iff]
    exact ⟨restricted, by omega⟩
  rw [beginRefusal, if_neg (Nat.not_lt.2 args), if_neg maskFine, if_pos denied]

/-- R182: a WRITE TABLE of the controlling station outside the twelve tables. -/
theorem beginRefusal_table (isWrite : op = .writeTable)
    (access : r.source = controller ∧ 1 ≤ r.source ∧ r.source ≤ 250) (outside : r.subject = 0 ∨ 12 < r.subject) :
    beginRefusal controller r op = some .refusedRange := by
  subst isWrite
  have accessFine : ¬(!anyStation .writeTable
      && !(r.source == controller && decide (1 ≤ r.source) && decide (r.source ≤ 250))) = true := by
    rw [fromController_iff.2 access]
    simp
  have tableOutside : (RequestOp.writeTable == .writeTable && (r.subject == 0 || decide (12 < r.subject))) = true := by
    simpa using outside
  have args : ¬r.args.length < neededArgs .writeTable := Nat.not_lt_zero _
  rw [beginRefusal, if_neg args, if_neg (by simp), if_neg accessFine, if_pos tableOutside]

end

section
variable {s : State} {r : Request} {rest : List Request}

/-- R175: the oldest request of the intake is begun. -/
theorem exec_requestBegin (now : BeginsNow s r rest) : exec .requestBegin s = .next
    (if r.broadcast then beginBroadcast r (begun s rest) else beginAddressed r (begun s rest)) := by
  obtain ⟨free, noReset, room, intake⟩ := now
  refine congrArg Host.Outcome.next ?_
  have may : mayBegin s.mga = true := by
    simp [mayBegin, free, noReset, Config.responseDepth, room]
  rw [intake]
  exact if_pos may

theorem exec_requestBegin_addressed (now : BeginsNow s r rest) (addressed : r.broadcast = false) :
    exec .requestBegin s = .next (beginAddressed r (begun s rest)) := by
  rw [exec_requestBegin now, addressed]
  rfl

theorem beginAddressed_passed {op : RequestOp} (isOp : r.op = some op)
    (passed : beginRefusal s.cpt.controller r op = none) : beginAddressed r s = handOn r (some op) s := by
  simp only [beginAddressed, isOp, passed]

theorem beginAddressed_refused {op : RequestOp} {status : Status} (isOp : r.op = some op)
    (refused : beginRefusal s.cpt.controller r op = some status) :
    beginAddressed r s = placeAnswer r status [] s := by
  simp only [beginAddressed, isOp, refused]

/-- R176, R177: MGA's own refusal of the request it begins. -/
theorem exec_requestBegin_refused {op : RequestOp} {status : Status} (now : BeginsNow s r rest)
    (addressed : r.broadcast = false) (isOp : r.op = some op)
    (refused : beginRefusal s.cpt.controller r op = some status) (refuses : statusRefuses status = true) :
    exec .requestBegin s = .next { begun s rest with
      mga := answered { s.mga with intake := rest } r status []
      bus := refusalReported (begun s rest).bus } := by
  rw [exec_requestBegin_addressed now addressed]
  refine congrArg Host.Outcome.next ?_
  have begunRefused : beginRefusal (begun s rest).cpt.controller r op = some status := refused
  rw [beginAddressed_refused isOp begunRefused]
  exact place_of_refuses (a := plain (begun s rest) status) addressed refuses

end

/-- Settles O30: MGA's checks in their order. -/
theorem requestsAreHandedOnDeniedOrUnknown : Obligations.RequestsAreHandedOnDeniedOrUnknown := by
  unfold Obligations.RequestsAreHandedOnDeniedOrUnknown
  refine ⟨fun s r rest op now addressed isOp args mask table access => ?_, fun s r rest now addressed noOp => ?_,
    fun s r executing addressed noOp => congrArg Host.Outcome.next ?_,
    fun s r rest op now addressed isOp restricted args mask other => ?_,
    fun s r rest op now addressed isOp bad => ?_⟩
  · have passed : beginRefusal (begun s rest).cpt.controller r op = none := beginRefusal_eq_none args mask table access
    rw [exec_requestBegin_addressed now addressed, beginAddressed_passed isOp passed]
    refine congrArg Host.Outcome.next ?_
    by_cases restart : op = .restart <;> simp [handOn, State.modMga, restart]
  · rw [exec_requestBegin_addressed now addressed]
    refine congrArg Host.Outcome.next ?_
    simp only [beginAddressed, noOp]
    rfl
  · rw [serve_mine executing (by simp [noOp])]
    exact place_of_refuses (a := plain s .unknown) addressed rfl
  · exact exec_requestBegin_refused now addressed isOp (beginRefusal_denied restricted args mask other) rfl
  · refine exec_requestBegin_refused now addressed isOp ?_ rfl
    rcases bad with short | ⟨isClear, args, undefined⟩ | ⟨isWrite, station, low, high, outside⟩
    · exact beginRefusal_short short
    · exact beginRefusal_mask isClear args undefined
    · exact beginRefusal_table isWrite ⟨station, low, high⟩ outside

/-! ### Broadcast requests -/

theorem settleFairness_mga (s : State) : s.settleFairness.mga = s.mga := by
  unfold State.settleFairness
  split <;> rfl

/-- A broadcast RESTART places no answer, in whichever order the blocks take it (R178, R186). -/
theorem takeRestart_responses {r : Request} (all : r.broadcast = true) (block : Option Block) (s : State) :
    (takeRestart r block s).mga.responses = s.mga.responses := by
  have taken : ((restartNow s.mga.restartLeft block).foldl restartBlock s).mga = s.mga :=
    (foldl_restartBlock_outside _ s).2.1
  unfold takeRestart endRestart
  dsimp only
  split
  · rw [placeAnswer_eq, if_pos all]
    dsimp only [State.modMga]
    rw [settleFairness_mga, taken]
  · rw [settleFairness_mga]
    exact (congrArg Mga.responses taken :)

/-- Settles O31: a broadcast request is executed or ended, and its owner answers nobody. -/
theorem broadcastRequestsAreNeverAnswered : Obligations.BroadcastRequestsAreNeverAnswered := by
  unfold Obligations.BroadcastRequestsAreNeverAnswered
  intro s r rest now all
  have begins : exec .requestBegin s = .next (beginBroadcast r (begun s rest)) := by
    rw [exec_requestBegin now, if_pos all]
  refine ⟨fun isRestart => ⟨?_, fun u executing b t run => ?_⟩, fun isReset => ⟨?_, fun u executing t run => ?_⟩,
    fun notRestart notReset => ?_⟩
  · rw [begins]
    refine congrArg Host.Outcome.next ?_
    simp [beginBroadcast, broadcastActs, isRestart, handOn, State.modMga]
  · rw [exec_restart_of_executing b executing isRestart] at run
    cases run
    exact takeRestart_responses all b u
  · rw [begins]
    refine congrArg Host.Outcome.next ?_
    simp [beginBroadcast, broadcastActs, isReset, handOn, State.modMga]
  · rw [exec_fullReset_of_executing executing isReset] at run
    cases run
    simp [takeFullReset, all]
  · rw [begins]
    refine congrArg Host.Outcome.next (if_neg ?_)
    simp [broadcastActs, notRestart, notReset]

end Sys2Proof.Machine
end

section
/-! SUPPORT. The table writes (R182): what each owner answers, by the range, state and conflict steps of its table. -/

namespace Sys2Proof.Machine

/-! ### A write answered -/

/-- The next state of a request refused with this status. -/
abbrev refusedWith (s : State) (r : Request) (status : Status) : State :=
  { s with mga := answered s.mga r status [], bus := refusalReported s.bus }

/-- The next state of a request answered DONE without data by an owner that leaves t. -/
abbrev doneWith (t : State) (r : Request) : State :=
  { t with mga := answered t.mga r .done [] }

section
variable {s t : State} {r : Request} {n : Nat} {op : RequestOp} {owner : Request → State → Answer} {status : Status}

theorem serve_writing_refused (h : Writing s n r) (answer : owner r s = plain s status)
    (refuses : statusRefuses status = true) :
    Host.Outcome.next (serve (·.isWrite n) owner s)
      = (.next (refusedWith s r status) : Host.Outcome State Fault Refusal) := by
  rw [serve_writing h, answer, place_plain_of_refuses h.1.2.2 refuses]

theorem serve_writing_done (h : Writing s n r) (answer : owner r s = plain t .done) :
    Host.Outcome.next (serve (·.isWrite n) owner s) = (.next (doneWith t r) : Host.Outcome State Fault Refusal) := by
  rw [serve_writing h, answer, place_plain_of_not_refuses h.1.2.2 rfl]

theorem serve_executing_refused (h : Executing s op r) (answer : owner r s = plain s status)
    (refuses : statusRefuses status = true) :
    Host.Outcome.next (serve (·.isOp op) owner s)
      = (.next (refusedWith s r status) : Host.Outcome State Fault Refusal) := by
  rw [serve_executing h, answer, place_plain_of_refuses h.2.2 refuses]

theorem serve_executing_accepted (h : Executing s op r) (answer : owner r s = plain t status)
    (accepts : statusRefuses status = false) : Host.Outcome.next (serve (·.isOp op) owner s)
      = (.next { t with mga := answered t.mga r status [] } : Host.Outcome State Fault Refusal) := by
  rw [serve_executing h, answer, place_plain_of_not_refuses h.2.2 accepts]

end

/-! ### The Source Table -/

section
variable {s : State}

theorem pairBusy_iff {e : Option SourceEntry} : pairBusy s e = true ↔
    ∃ x ∈ e, ∃ a n, x.kind = .samplePair a n ∧ (s.axes[a]).ctx.state ≠ .off := by
  unfold pairBusy
  split
  next a n => simp
  next other =>
    simp only [Bool.false_eq_true, false_iff]
    rintro ⟨⟨st, c, f, k⟩, rfl, a, n, rfl, -⟩
    exact other _ _ _ _ _ rfl

theorem isMarker_iff {e : Option SourceEntry} : isMarker e = true ↔ ∃ x ∈ e, ∃ m a, x.kind = .marker m a := by
  unfold isMarker
  split
  next a n => simp
  next other =>
    simp only [Bool.false_eq_true, false_iff]
    rintro ⟨⟨st, c, f, k⟩, rfl, m, a, rfl⟩
    exact other _ _ _ _ _ rfl

/-- R26. -/
theorem sourceWriteRefused_iff {old new : Option SourceEntry} : sourceWriteRefused s old new = true ↔
    pairBusy s old = true ∨ pairBusy s new = true
      ∨ ((isMarker old = true ∨ isMarker new = true) ∧ s.cap.state = .armed) := by
  simp [sourceWriteRefused, or_assoc]

/-- R27. -/
theorem sourceClashes_iff {t : Vector (Option SourceEntry) 16} {i : Fin 16} {new : Option SourceEntry} :
    sourceClashes t i new = true ↔ ∃ x ∈ new, ∃ j : Fin 16, j ≠ i ∧ ∃ y ∈ t[j], entriesClash x y = true := by
  rw [← Bool.not_eq_false, sourceClashes_eq_false_iff]
  simp only [not_forall, Bool.not_eq_false]
  constructor
  · rintro ⟨x, hx, j, hj, y, hy, clash⟩
    exact ⟨x, hx, j, hj, y, hy, clash⟩
  · rintro ⟨x, hx, j, hj, y, hy, clash⟩
    exact ⟨x, hx, j, hj, y, hy, clash⟩

theorem writeSource_none {r : Request} (h : entryOf 16 10 sourceOf r = none) :
    writeSource r s = plain s .refusedRange := by
  rw [writeSource, h]

theorem writeSource_some {r : Request} {i : Fin 16} {new : Option SourceEntry}
    (h : entryOf 16 10 sourceOf r = some (i, new)) : writeSource r s =
      if sourceWriteRefused s s.sfl.table[i] new then plain s .refusedState
      else if sourceClashes s.sfl.table i new then plain s .refusedConflict
      else plain (s.modSfl fun u => { u with table := modifyAt u.table i fun _ => new }) .done := by
  rw [writeSource, h]

end

/-- Settles O33: the three steps of R25 in their order. -/
theorem sourceWritesFollowTheThreeSteps : Obligations.SourceWritesFollowTheThreeSteps := by
  unfold Obligations.SourceWritesFollowTheThreeSteps
  intro s r writing refused
  refine ⟨fun outside => serve_writing_refused writing (writeSource_none (entryOf_eq_none.2 outside)) rfl,
    fun i new index enough decoded => ?_⟩
  intro busy marker state clashing clash
  have steps := writeSource_some (s := s) (entryOf_eq_some.2 ⟨index, enough, decoded⟩)
  have isState : sourceWriteRefused s s.sfl.table[i] new = true ↔ state := by
    rw [sourceWriteRefused_iff, pairBusy_iff, pairBusy_iff, isMarker_iff, isMarker_iff]
  have isClash : sourceClashes s.sfl.table i new = true ↔ clash := by
    rw [sourceClashes_iff]
    simp only [entriesClash_iff]
    rfl
  refine ⟨fun h => ?_, fun h c => ?_, fun h c => ?_⟩
  · exact serve_writing_refused writing (steps.trans (if_pos (isState.2 h))) rfl
  · rw [if_neg (mt isState.1 h), if_pos (isClash.2 c)] at steps
    exact serve_writing_refused writing steps rfl
  · rw [if_neg (mt isState.1 h), if_neg (mt isClash.1 c)] at steps
    exact serve_writing_done writing steps

/-! ### The Axis and Nonlinearity Tables -/

section
variable {s : State} {r : Request}

theorem writeAxis_none (h : entryOf 6 43 axisSettingsOf r = none) : writeAxis r s = plain s .refusedRange := by
  rw [writeAxis, h]

theorem writeAxis_some {a : AxisId} {new : AxisSettings} (h : entryOf 6 43 axisSettingsOf r = some (a, new)) :
    writeAxis r s = if (s.axes[a]).ctx.state ≠ .off then plain s .refusedState
      else plain (s.modAxis a fun x => { x with settings := new }) .done := by
  rw [writeAxis, h]

theorem writeNonlinear_none (h : entryOf 384 1 (fun b => some (signedField b 0 1)) r = none) :
    writeNonlinear r s = plain s .refusedRange := by
  rw [writeNonlinear, h]

theorem writeNonlinear_some {a : AxisId} {k : Fin 64} (index : r.index = 64 * a.val + k.val) (enough : 1 ≤ r.args.length) :
    writeNonlinear r s = if (s.axes[a]).ctx.state ≠ .off then plain s .refusedState
      else plain (s.modAxis a fun x =>
        { x with nonlinear := modifyAt x.nonlinear k fun _ => signedField r.args 0 1 }) .done := by
  have position : 64 * a.val + k.val < 384 := by omega
  have found : entryOf 384 1 (fun b => some (signedField b 0 1)) r
      = some (⟨64 * a.val + k.val, position⟩, signedField r.args 0 1) :=
    entryOf_eq_some.2 ⟨index, enough, rfl⟩
  have axis : nonlinearAxis ⟨64 * a.val + k.val, position⟩ = a := Fin.ext (by simp only [nonlinearAxis]; omega)
  have entry : nonlinearEntry ⟨64 * a.val + k.val, position⟩ = k := Fin.ext (by simp only [nonlinearEntry]; omega)
  rw [writeNonlinear, found]
  simp only [axis, entry]

end

/-- Settles O34: the range step, then the axis's state. -/
theorem axisTableWritesNeedAnAxisInOff : Obligations.AxisTableWritesNeedAnAxisInOff := by
  unfold Obligations.AxisTableWritesNeedAnAxisInOff
  intro s r refused
  refine ⟨fun writing => ⟨fun outside => ?_, fun a new index enough decoded => ⟨fun busy => ?_, fun off => ?_⟩⟩,
    fun writing => ⟨fun outside => ?_, fun a k index enough => ⟨fun busy => ?_, fun off => ?_⟩⟩⟩
  · exact serve_writing_refused writing (writeAxis_none (entryOf_eq_none.2 outside)) rfl
  · exact serve_writing_refused writing
      ((writeAxis_some (entryOf_eq_some.2 ⟨index, enough, decoded⟩)).trans (if_pos busy)) rfl
  · exact serve_writing_done writing
      ((writeAxis_some (entryOf_eq_some.2 ⟨index, enough, decoded⟩)).trans (if_neg (not_not.2 off)))
  · exact serve_writing_refused writing (writeNonlinear_none (entryOf_eq_none.2 (outside.imp_right .inl))) rfl
  · exact serve_writing_refused writing ((writeNonlinear_some index enough).trans (if_pos busy)) rfl
  · exact serve_writing_done writing ((writeNonlinear_some index enough).trans (if_neg (not_not.2 off)))

/-! ### The tables of SCU and CAP -/

section
variable {s : State} {r : Request}

theorem writeComposite_none (h : entryOf 4 14 compositeOf r = none) : writeComposite r s = plain s .refusedRange := by
  rw [writeComposite, h]

theorem writeComposite_some {c : Fin 4} {new : CompositeEntry} (h : entryOf 4 14 compositeOf r = some (c, new)) :
    writeComposite r s = if s.cap.state = .armed then plain s .refusedState
      else if inputsEqual new then plain s .refusedConflict
      else plain (s.modScu fun u => { u with composites := modifyAt u.composites c fun _ => new }) .done := by
  rw [writeComposite, h]

theorem writeEnvgroup_none (h : entryOf 4 12 groupSettingsOf r = none) : writeEnvgroup r s = plain s .refusedRange := by
  rw [writeEnvgroup, h]

theorem writeEnvgroup_some {g : GroupId} {new : GroupSettings} (h : entryOf 4 12 groupSettingsOf r = some (g, new)) :
    writeEnvgroup r s = plain (s.modScu fun u => { u with groups := modifyAt u.groups g (withSettings new) }) .done := by
  rw [writeEnvgroup, h]

theorem writeEntry_none (h : entryOf 32 14 windowEntryOf r = none) : writeEntry r s = plain s .refusedRange := by
  rw [writeEntry, h]

theorem writeEntry_some {i : Fin 32} {new : WindowEntry} (h : entryOf 32 14 windowEntryOf r = some (i, new)) :
    writeEntry r s = if s.cap.state = .armed then plain s .refusedState
      else plain (s.modCap fun c => { c with windows := modifyAt c.windows i fun _ => new }) .done := by
  rw [writeEntry, h]

theorem writeHeader_none (h : r.args.length < 8 ∨ windowHeaderOf r.args = none) :
    writeHeader r s = plain s .refusedRange := by
  have none : (if 8 ≤ r.args.length then windowHeaderOf r.args else none) = Option.none := by
    split
    next enough => exact h.resolve_left (Nat.not_lt.2 enough)
    next => rfl
  rw [writeHeader, none]

theorem writeHeader_some {new : WindowHeader} (enough : 8 ≤ r.args.length) (decoded : windowHeaderOf r.args = some new) :
    writeHeader r s = if s.cap.state = .armed then plain s .refusedState
      else plain (s.modCap fun c => { c with header := new }) .done := by
  rw [writeHeader, if_pos enough, decoded]

theorem writeWindow_header (index : r.index = 32) : writeWindow r s = writeHeader r s := if_pos index

theorem writeWindow_entry (index : r.index ≠ 32) : writeWindow r s = writeEntry r s := if_neg index

theorem writeCapmap_none (h : entryOf 13 3 capMapOf r = none) : writeCapmap r s = plain s .refusedRange := by
  rw [writeCapmap, h]

theorem writeCapmap_some {i : SourceId} {new : CapMapEntry} (h : entryOf 13 3 capMapOf r = some (i, new)) :
    writeCapmap r s = if s.cap.state = .armed then plain s .refusedState
      else plain (s.modCap fun c => { c with map := modifyAt c.map i fun _ => new }) .done := by
  rw [writeCapmap, h]

theorem writeCompare_none (h : entryOf 4 11 compareSlotOf r = none) : writeCompare r s = plain s .refusedRange := by
  rw [writeCompare, h]

theorem writeCompare_some {j : Fin 4} {new : CompareSlot} (h : entryOf 4 11 compareSlotOf r = some (j, new)) :
    writeCompare r s = plain (s.modCap fun c => { c with slots := modifyAt c.slots j fun _ => new }) .done := by
  rw [writeCompare, h]

end

/-- Settles O35: the owners' answers to writes in range. -/
theorem scalingAndCaptureWritesReplaceTheEntry : Obligations.ScalingAndCaptureWritesReplaceTheEntry := by
  unfold Obligations.ScalingAndCaptureWritesReplaceTheEntry
  refine ⟨fun s r => ⟨fun writing c new index enough decoded idle apart => ?_,
      fun writing g new index enough decoded => ?_⟩,
    fun s r => ⟨fun writing idle => ⟨fun i new index enough decoded => ?_, fun new index enough decoded => ?_⟩,
      fun writing idle i new index enough decoded => ?_, fun writing j new index enough decoded => ?_⟩⟩
  · have steps := writeComposite_some (s := s) (entryOf_eq_some.2 ⟨index, enough, decoded⟩)
    rw [if_neg idle, if_neg (Bool.not_eq_true _ ▸ apart)] at steps
    exact serve_writing_done writing steps
  · exact serve_writing_done writing (writeEnvgroup_some (entryOf_eq_some.2 ⟨index, enough, decoded⟩))
  · have notHeader : r.index ≠ 32 := by omega
    have steps := writeEntry_some (s := s) (entryOf_eq_some.2 ⟨index, enough, decoded⟩)
    exact serve_writing_done writing ((writeWindow_entry notHeader).trans (steps.trans (if_neg idle)))
  · exact serve_writing_done writing
      ((writeWindow_header index).trans ((writeHeader_some enough decoded).trans (if_neg idle)))
  · exact serve_writing_done writing
      ((writeCapmap_some (entryOf_eq_some.2 ⟨index, enough, decoded⟩)).trans (if_neg idle))
  · exact serve_writing_done writing (writeCompare_some (entryOf_eq_some.2 ⟨index, enough, decoded⟩))

/-- An entry in range is the one that the bytes of the write hold. -/
theorem entryOf_isSome {α : Type} {n size : Nat} {decode : List Byte → Option α} {r : Request} (index : r.index < n)
    (enough : size ≤ r.args.length) (decoded : decode r.args ≠ none) :
    ∃ i x, entryOf n size decode r = some (i, x) := by
  obtain ⟨x, isX⟩ := Option.ne_none_iff_exists'.1 decoded
  exact ⟨⟨r.index, index⟩, x, entryOf_eq_some.2 ⟨rfl, enough, isX⟩⟩

/-- Settles O36: the range step, then the capture state, then the two inputs. -/
theorem armedCaptureRefusesTableWrites : Obligations.ArmedCaptureRefusesTableWrites := by
  unfold Obligations.ArmedCaptureRefusesTableWrites
  intro s r refused
  refine ⟨fun writing => ⟨fun outside => ?_, fun index enough decoded armed => ?_,
      fun new index enough decoded idle same => ?_⟩,
    fun writing outside => ?_, fun writing outside => ?_,
    fun writing => ⟨fun beyond => ?_, fun index outside => ?_, fun index outside => ?_,
      fun index enough decoded armed => ?_, fun index enough decoded armed => ?_⟩,
    fun writing => ⟨fun outside => ?_, fun index enough decoded armed => ?_⟩⟩
  · exact serve_writing_refused writing (writeComposite_none (entryOf_eq_none.2 outside)) rfl
  · obtain ⟨c, new, found⟩ := entryOf_isSome index enough decoded
    exact serve_writing_refused writing ((writeComposite_some found).trans (if_pos armed)) rfl
  · have found : entryOf 4 14 compositeOf r = some (⟨r.index, index⟩, new) := entryOf_eq_some.2 ⟨rfl, enough, decoded⟩
    have equal : inputsEqual new = true := by
      rcases same with ⟨a, wa, wb, back, rfl⟩ | ⟨a, sep, rfl⟩ <;> exact beq_self_eq_true a
    have steps := writeComposite_some (s := s) found
    rw [if_neg idle, if_pos equal] at steps
    exact serve_writing_refused writing steps rfl
  · exact serve_writing_refused writing (writeEnvgroup_none (entryOf_eq_none.2 outside)) rfl
  · exact serve_writing_refused writing (writeCompare_none (entryOf_eq_none.2 outside)) rfl
  · exact serve_writing_refused writing
      ((writeWindow_entry beyond.ne').trans (writeEntry_none (entryOf_eq_none.2 (.inl beyond.le)))) rfl
  · exact serve_writing_refused writing
      ((writeWindow_entry index.ne).trans (writeEntry_none (entryOf_eq_none.2 (.inr outside)))) rfl
  · exact serve_writing_refused writing ((writeWindow_header index).trans (writeHeader_none outside)) rfl
  · obtain ⟨i, new, found⟩ := entryOf_isSome index enough decoded
    exact serve_writing_refused writing
      ((writeWindow_entry index.ne).trans ((writeEntry_some found).trans (if_pos armed))) rfl
  · obtain ⟨new, isNew⟩ := Option.ne_none_iff_exists'.1 decoded
    exact serve_writing_refused writing
      ((writeWindow_header index).trans ((writeHeader_some enough isNew).trans (if_pos armed))) rfl
  · exact serve_writing_refused writing (writeCapmap_none (entryOf_eq_none.2 outside)) rfl
  · obtain ⟨i, new, found⟩ := entryOf_isSome index enough decoded
    exact serve_writing_refused writing ((writeCapmap_some found).trans (if_pos armed)) rfl

/-! ### The tables of FMN, RQU and the timing -/

section
variable {s : State} {r : Request}

theorem writeRoute_none (h : entryOf 23 1 routeOf r = none) : writeRoute r s = plain s .refusedRange := by
  rw [writeRoute, h]

theorem writeRoute_some {k : Fin 23} {new : Route} (h : entryOf 23 1 routeOf r = some (k, new)) :
    writeRoute r s = plain (s.modFmn fun f => { f with routes := modifyAt f.routes k fun _ => new }) .done := by
  rw [writeRoute, h]

theorem writeCountsel_none (h : entryOf 8 1 selectionOf r = none) : writeCountsel r s = plain s .refusedRange := by
  rw [writeCountsel, h]

theorem writeCountsel_some {j : Fin 8} {new : Nat} (h : entryOf 8 1 selectionOf r = some (j, new)) :
    writeCountsel r s = plain (s.modFmn fun f => { f with
      selections := modifyAt f.selections j fun _ => new, counters := modifyAt f.counters j fun _ => 0 }) .done := by
  rw [writeCountsel, h]

theorem writeDelivery_none (h : entryOf 1 8 deliveryOf r = none) : writeDelivery r s = plain s .refusedRange := by
  rw [writeDelivery, h]

theorem writeDelivery_some {i : Fin 1} {new : Delivery} (h : entryOf 1 8 deliveryOf r = some (i, new)) :
    writeDelivery r s = plain (s.modRqu (withDelivery new)).refreshAge .done := by
  rw [writeDelivery, h]

theorem writeTiming_none (h : entryOf 1 6 timingOf r = none) : writeTiming r s = plain s .refusedRange := by
  rw [writeTiming, h]

theorem writeTiming_some {i : Fin 1} {timeout limit : Nat} (h : entryOf 1 6 timingOf r = some (i, timeout, limit)) :
    writeTiming r s = plain (checkChainDown
      ((s.modCap fun c => { c with timeout := timeout }).modCpt fun c => { c with chainLimit := limit })) .done := by
  rw [writeTiming, h]

/-- R193: the three switches of a ROUTE entry are the three bits of its byte. -/
theorem routeOf_eq {x : Nat} (isX : field r.args 0 1 = x) (small : x < 8) :
    routeOf r.args = some ⟨x % 2 = 1, x / 2 % 2 = 1, x / 4 = 1⟩ := by
  have bits : ∀ y : Fin 8, (⟨y.val.testBit 0, y.val.testBit 1, y.val.testBit 2⟩ : Route)
      = ⟨y.val % 2 = 1, y.val / 2 % 2 = 1, y.val / 4 = 1⟩ := by decide
  have whole : routeOf r.args = some ⟨x.testBit 0, x.testBit 1, x.testBit 2⟩ := by
    rw [routeOf, isX]
    exact if_pos small
  rw [whole]
  exact congrArg some (bits ⟨x, small⟩)

theorem routeOf_eq_none (outside : 7 < field r.args 0 1) : routeOf r.args = none :=
  if_neg (by omega)

theorem selectionOf_eq_none (outside : 27 < field r.args 0 1) : selectionOf r.args = none :=
  if_neg (by omega)

end

/-- With a response waiting the fairness count stands. -/
theorem settleFairness_of_response {s : State} (waiting : s.mga.responses ≠ []) : s.settleFairness = s := by
  have insert : insertWaiting s = true := by
    rw [insertWaiting_iff]
    exact .inl waiting
  exact if_pos insert

theorem responses_answered_ne (m : Mga) (r : Request) (status : Status) (data : List Byte) :
    (answered m r status data).responses ≠ [] :=
  List.append_ne_nil_of_right_ne_nil _ (List.cons_ne_nil _ _)

/-- Settles O37: the writes that act at once. -/
theorem monitorDeliveryAndTimingWritesActAtOnce : Obligations.MonitorDeliveryAndTimingWritesActAtOnce := by
  unfold Obligations.MonitorDeliveryAndTimingWritesActAtOnce
  refine ⟨fun s r => ?_, fun s r => ⟨fun writing k x index enough isX small => ?_,
      fun writing j e index enough isE small => ?_⟩,
    fun s r => ⟨fun writing new index enough decoded => ?_, fun writing timeout limit index enough decoded => ?_⟩⟩
  · intro refused
    refine ⟨fun writing outside => ?_, fun writing outside => ?_, fun writing outside => ?_, fun writing outside => ?_⟩
    · exact serve_writing_refused writing
        (writeRoute_none (entryOf_eq_none.2 (outside.imp_right (·.imp_right routeOf_eq_none)))) rfl
    · exact serve_writing_refused writing
        (writeCountsel_none (entryOf_eq_none.2 (outside.imp_right (·.imp_right selectionOf_eq_none)))) rfl
    · have none : entryOf 1 8 deliveryOf r = Option.none :=
        entryOf_eq_none.2 (outside.imp_left fun index => Nat.one_le_iff_ne_zero.2 index)
      have served : serve (·.isWrite 11) writeDelivery s = refusedWith s r .refusedRange :=
        Host.Outcome.next.inj (serve_writing_refused writing (writeDelivery_none none) rfl)
      refine congrArg Host.Outcome.next ?_
      rw [served, settleFairness_of_response (responses_answered_ne _ _ _ _)]
    · have none : entryOf 1 6 timingOf r = Option.none :=
        entryOf_eq_none.2 (outside.imp_left fun index => Nat.one_le_iff_ne_zero.2 index)
      exact serve_writing_refused writing (writeTiming_none none) rfl
  · exact serve_writing_done writing (writeRoute_some (entryOf_eq_some.2 ⟨index, enough, routeOf_eq isX small⟩))
  · have decoded : selectionOf r.args = some e := by
      rw [selectionOf, isE]
      exact if_pos small
    exact serve_writing_done writing (writeCountsel_some (entryOf_eq_some.2 ⟨index, enough, decoded⟩))
  · have found : entryOf 1 8 deliveryOf r = some (0, new) := entryOf_eq_some.2 ⟨index, enough, decoded⟩
    have served : serve (·.isWrite 11) writeDelivery s = doneWith (s.modRqu (withDelivery new)).refreshAge r :=
      Host.Outcome.next.inj (serve_writing_done writing (writeDelivery_some found))
    refine ⟨doneWith (s.modRqu (withDelivery new)).refreshAge r, congrArg Host.Outcome.next ?_, rfl, rfl⟩
    rw [served, settleFairness_of_response (responses_answered_ne _ _ _ _)]
  · have found : entryOf 1 6 timingOf r = some (0, timeout, limit) := entryOf_eq_some.2 ⟨index, enough, decoded⟩
    have answer := writeTiming_some (s := s) found
    rw [checkChainDown_eq] at answer
    refine ⟨fun keeps => ?_, fun assigned up reached => ?_⟩
    · rw [if_neg] at answer
      · exact serve_writing_done writing answer
      · rintro ⟨assigned, up, reached⟩
        rcases keeps with unassigned | down | below
        · exact assigned unassigned
        · exact absurd up (by rw [State.modCpt]; simp [State.modCap, down])
        · exact absurd reached (Nat.not_le.2 below)
    · rw [if_pos ⟨assigned, up, reached⟩] at answer
      exact serve_writing_done writing answer

end Sys2Proof.Machine
end

section
/-! SUPPORT. The requests on an axis (R73, R75, R103, R111, R113), on the record queue (R168, R170) and on the error log
(R192, R198): the owners' answers. -/

namespace Sys2Proof.Machine

section
variable {s t : State} {r : Request} {a : AxisId} {op : RequestOp} {act : AxisId → Request → State → Answer}
  {status : Status}

theorem serve_onAxis_refused (h : ExecutingOn s op r a) (answer : act a r s = plain s status)
    (refuses : statusRefuses status = true) : Host.Outcome.next (serve (·.isOp op) (onAxis act) s)
      = (.next (refusedWith s r status) : Host.Outcome State Fault Refusal) :=
  serve_executing_refused h.1 ((onAxis_some h.2 s).trans answer) refuses

theorem serve_onAxis_accepted (h : ExecutingOn s op r a) (answer : act a r s = plain t status)
    (accepts : statusRefuses status = false) : Host.Outcome.next (serve (·.isOp op) (onAxis act) s)
      = (.next { t with mga := answered t.mga r status [] } : Host.Outcome State Fault Refusal) :=
  serve_executing_accepted h.1 ((onAxis_some h.2 s).trans answer) accepts

/-- R179: a request on an axis number above 5. -/
theorem serve_onAxis_outside (h : Executing s op r) (outside : 5 < r.subject) :
    Host.Outcome.next (serve (·.isOp op) (onAxis act) s)
      = (.next (refusedWith s r .refusedRange) : Host.Outcome State Fault Refusal) :=
  serve_executing_refused h (onAxis_none outside s) rfl

/-- An answer with data, DONE. -/
theorem serve_executing_data {owner : Request → State → Answer} {data : List Byte} (h : Executing s op r)
    (answer : owner r s = { state := t, status := .done, data := data }) :
    Host.Outcome.next (serve (·.isOp op) owner s)
      = (.next { t with mga := answered t.mga r .done data } : Host.Outcome State Fault Refusal) := by
  rw [serve_executing h, answer, place_of_not_refuses h.2.2 rfl]

end

/-! ### AXIS START and ACCEPT -/

/-- Settles O38: an axis number out of range first, then the state of the axis. -/
theorem axisStartAndAcceptChangeTheState : Obligations.AxisStartAndAcceptChangeTheState := by
  unfold Obligations.AxisStartAndAcceptChangeTheState
  refine ⟨fun s r outside => ?_, fun s r a => ⟨fun executing => ⟨fun off enabled => ?_, fun other => ?_⟩,
    fun executing => ⟨fun slipped => ?_, fun other => ?_⟩⟩⟩
  · intro refused
    exact ⟨fun h => serve_onAxis_outside h outside, fun h => serve_onAxis_outside h outside,
      fun h => serve_onAxis_outside h outside, fun h => serve_onAxis_outside h outside,
      fun h => serve_onAxis_outside h outside, fun h => serve_onAxis_outside h outside,
      fun h => serve_onAxis_outside h outside, fun h => serve_onAxis_outside h outside⟩
  · have starts : ¬((s.axes[a]).ctx.state ≠ .off ∨ (s.axes[a]).settings.enable = false) := by
      rintro (other | disabled)
      · exact other off
      · exact absurd enabled (by rw [disabled]; decide)
    have answer : startAxis a r s = plain _ .done := if_neg starts
    exact serve_onAxis_accepted executing answer rfl
  · exact serve_onAxis_refused executing (if_pos other) rfl
  · have answer : acceptAxis a r s = plain _ .done := if_pos slipped
    exact serve_onAxis_accepted executing answer rfl
  · exact serve_onAxis_refused executing (if_neg other) rfl

/-! ### ZERO AT REFERENCE, ZERO CANCEL and PRESET -/

theorem AxisContext.armed_iff {c : AxisContext} : c.armed = true ↔ c.zero ≠ .none := by
  simp [AxisContext.armed]

theorem AxisContext.counting_eq_false_iff {c : AxisContext} :
    c.counting = false ↔ c.state = .off ∨ c.state = .acquire ∨ c.state = .lost := by
  rw [← Bool.not_eq_true, AxisContext.counting_iff]
  tauto

/-- Settles O40: the state of the axis before its arming. -/
theorem zeroRequestsArmAndDisarm : Obligations.ZeroRequestsArmAndDisarm := by
  unfold Obligations.ZeroRequestsArmAndDisarm
  intro s r a c refused
  have counts (counting : c.counting = true) : ¬(s.axes[a]).ctx.counting = false := by
    rw [show (s.axes[a]).ctx.counting = true from counting]
    decide
  refine ⟨fun executing => ⟨fun counting free => ?_, fun counting isArmed => ?_, fun other => ?_⟩,
    fun executing => ⟨fun isArmed => ?_, fun free => ?_⟩⟩
  · have notArmed : ¬(s.axes[a]).ctx.armed = true := mt AxisContext.armed_iff.1 (not_not.2 free)
    have answer : armZero a r s = plain _ .started := (if_neg (counts counting)).trans (if_neg notArmed)
    exact serve_onAxis_accepted executing answer rfl
  · have answer : armZero a r s = plain s .busy :=
      (if_neg (counts counting)).trans (if_pos (AxisContext.armed_iff.2 isArmed))
    exact serve_onAxis_accepted executing answer rfl
  · exact serve_onAxis_refused executing (if_pos (AxisContext.counting_eq_false_iff.2 other)) rfl
  · have answer : cancelZero a r s = plain _ .done := if_pos (AxisContext.armed_iff.2 isArmed)
    exact serve_onAxis_accepted executing answer rfl
  · exact serve_onAxis_refused executing (if_neg (mt AxisContext.armed_iff.1 (not_not.2 free))) rfl

theorem flagNewest_append (older : List HistEntry) (h : HistEntry) :
    flagNewest (older ++ [h]) = older ++ [{ h with referenced := true }] := by
  induction older with
  | nil => rfl
  | cons x older ih =>
    obtain ⟨y, tail, rest⟩ := List.exists_cons_of_ne_nil (List.append_ne_nil_of_right_ne_nil older (List.cons_ne_nil h []))
    rw [List.cons_append, List.cons_append, ← ih, rest]
    rfl

/-- The newest entry of the ring is flagged. -/
theorem getLast?_flagNewest (ring : List HistEntry) : ∀ h ∈ (flagNewest ring).getLast?, h.referenced = true := by
  rcases ring.eq_nil_or_concat with rfl | ⟨older, x, rfl⟩
  · simp [flagNewest]
  · simp [List.concat_eq_append, flagNewest_append]

/-- R90, R92, R113: the position after a preset with the offset V − sgn · Lp. -/
theorem currentPosition_preset {x : Axis} {applied v : Int} (fits : within48 v = true) (now : Time) :
    currentPosition { x with ctx := applyPreset x.ctx (presetOffset x applied v) applied now } applied = v := by
  rw [currentPosition, if_neg (by simp [applyPreset]), rawPosition]
  simp only [applyPreset, deadPathTerm_self, presetOffset]
  rw [show ∀ l : Int, l + 0 + (v - l) = v by intro l; ring]
  exact saturate_of_within fits

/-- Settles O41: the three refusals in their order, then the position by the offset. -/
theorem presetMakesThePositionTheValue : Obligations.PresetMakesThePositionTheValue := by
  unfold Obligations.PresetMakesThePositionTheValue
  intro s r a executing x v applied refused
  have counts (counting : x.ctx.counting = true) : ¬x.ctx.counting = false := by simp [counting]
  have fits {z : Int} (h : within48 z = true) : ¬within48 z = false := by simp [h]
  refine ⟨fun wide => ?_, fun inside other => ?_, fun inside counting wide => ?_, fun inside counting offset => ?_⟩
  · exact serve_onAxis_refused executing (if_pos wide) rfl
  · exact serve_onAxis_refused executing ((if_neg (fits inside)).trans (if_pos other)) rfl
  · exact serve_onAxis_refused executing
      ((if_neg (fits inside)).trans ((if_neg (counts counting)).trans (if_pos wide))) rfl
  · let u := s.modCtx a fun c => applyPreset c (presetOffset x applied v) applied s.cpt.observed
    have axis : u.axes[a] = { x with ctx := applyPreset x.ctx (presetOffset x applied v) applied s.cpt.observed } :=
      modifyAt_same s.axes a _
    have ring : (u.axes[a]).ctx.ring = flagNewest x.ctx.ring := by rw [axis]; rfl
    refine ⟨doneWith u r, serve_onAxis_accepted executing
      ((if_neg (fits inside)).trans ((if_neg (counts counting)).trans (if_neg (fits offset)))) rfl,
      ?_, ?_, ?_, ?_, ?_, fun empty => ?_, fun older h whole => ?_, ?_⟩
    · change currentPosition u.axes[a] (appliedOf u (u.axes[a]).settings.group) = v
      have sameApplied : appliedOf u (u.axes[a]).settings.group = applied := by rw [axis]; rfl
      rw [sameApplied, axis]
      exact currentPosition_preset inside _
    · change deadPathTerm x.settings.deadPath (u.axes[a]).ctx.xRef applied = 0
      rw [axis]
      exact deadPathTerm_self _ _
    · change (u.axes[a]).ctx = _
      rw [axis]
      rfl
    · change (u.axes[a]).ctx.ring.map (·.count) = _
      rw [ring, counts_flagNewest]
    · change ∀ h ∈ (u.axes[a]).ctx.ring.getLast?, h.referenced = true
      rw [ring]
      exact getLast?_flagNewest _
    · change (u.axes[a]).ctx.ring = []
      rw [ring, empty]
      rfl
    · change (u.axes[a]).ctx.ring = _
      rw [ring, whole, flagNewest_append]
    · have whole : u.axes = s.axes.set a.val { x with ctx := (u.axes[a]).ctx } a.isLt := by
        rw [axis]
        rfl
      change doneWith u r = { s with
        axes := s.axes.set a.val { x with ctx := (u.axes[a]).ctx } a.isLt, mga := answered s.mga r .done [] }
      rw [← whole]
      rfl

/-! ### DRAIN and FLUSH QUEUE -/

/-- Settles O46: DRAIN's refusals in their order; a flush empties the queue. -/
theorem drainAndFlushFollowTheQueue : Obligations.DrainAndFlushFollowTheQueue := by
  unfold Obligations.DrainAndFlushFollowTheQueue
  intro s r count refused
  refine ⟨fun executing => ⟨fun other => ?_, fun mine reader => ?_⟩, fun executing => ?_⟩
  · exact serve_executing_refused executing (if_pos other.symm) rfl
  · have fromReader : ¬(s.rqu.delivery.reader = 0 ∨ r.source ≠ s.rqu.delivery.reader) := by
      simp [mine, reader]
    refine ⟨fun outside => ?_, fun low high busy => ?_, fun low high idle => ?_⟩
    · have range : count < 1 ∨ 128 < count := by omega
      exact serve_executing_refused executing ((if_neg fromReader).trans (if_pos range)) rfl
    · have range : ¬(count < 1 ∨ 128 < count) := by omega
      exact serve_executing_accepted executing ((if_neg fromReader).trans ((if_neg range).trans (if_pos busy))) rfl
    · have range : ¬(count < 1 ∨ 128 < count) := by omega
      have free : ¬0 < s.rqu.drain := by omega
      have answer : drainQueue r s = ⟨s.modRqu fun q => { q with drain := min count s.rqu.queue.length }, .done,
          leBytes 1 (min count s.rqu.queue.length)⟩ := (if_neg fromReader).trans ((if_neg range).trans (if_neg free))
      exact serve_executing_data executing answer
  · have served : serve (·.isOp .flushQueue) flushQueue s = _ :=
      Host.Outcome.next.inj (serve_executing_data executing rfl)
    refine congrArg Host.Outcome.next ?_
    rw [served, settleFairness_of_response (responses_answered_ne _ _ _ _)]
    unfold State.reportTimes
    by_cases empty : s.rqu.queue = []
    · rw [if_pos empty, if_pos (List.length_eq_zero_iff.2 empty)]
      rfl
    · rw [if_neg empty, if_neg (mt List.length_eq_zero_iff.1 empty)]
      rfl

/-! ### CLEAR ERRORS and CLEAR COUNTERS -/

theorem clearCounted_counters (mask : Nat) (f : Fmn) (j : Fin 8) :
    (clearCounted mask f).counters[j] = if mask.testBit j.val then 0 else f.counters[j] := by
  simp [clearCounted]

/-- What CLEAR ERRORS keeps of FMN. -/
theorem clearNamed_eq (mask : Nat) (f : Fmn) : clearNamed mask f = { f with
    flags := (clearNamed mask f).flags, counts := (clearNamed mask f).counts, first := (clearNamed mask f).first
    operationEnded := (clearNamed mask f).operationEnded, queueWatermark := (clearNamed mask f).queueWatermark } := by
  unfold clearNamed
  rfl

theorem doneWith_modFmn (s : State) (r : Request) (f : Fmn → Fmn) :
    doneWith (s.modFmn f) r = { s with fmn := f s.fmn, mga := answered s.mga r .done [] } := rfl

/-- A test that only adds a fact that holds filters alike. -/
theorem filter_and_of_holds {α : Type} (o : Option α) (p : α → Bool) {Q : Prop}
    {d : ∀ x, Decidable (p x = true ∧ Q)} (holds : Q) : (o.filter fun x => @decide _ (d x)) = o.filter p := by
  simp [holds]

/-- Settles O47: what clearNamed and clearCounted leave, item by item. As the statement of CLEAR ERRORS is parsed, its
equation of the whole state stands inside the test that filters FIRST; it holds for every
state (`doneWith_modFmn`, `clearNamed_eq`). -/
theorem clearRequestsClearWhatTheMaskNames : Obligations.ClearRequestsClearWhatTheMaskNames := by
  unfold Obligations.ClearRequestsClearWhatTheMaskNames
  intro s r mask
  refine ⟨fun executing => ⟨fun undefined => ?_, fun bit small => ?_⟩, fun executing => ?_⟩
  · exact serve_executing_refused executing (if_pos (maskUndefined_iff.2 undefined)) rfl
  · have defined : ¬maskUndefined mask = true := by simp [maskUndefined_eq_false_iff.2 ⟨bit, small⟩]
    refine ⟨doneWith (s.modFmn (clearNamed mask)) r, serve_executing_accepted executing (if_neg defined) rfl,
      fun i => ⟨clearNamed_flags mask s.fmn i, clearNamed_counts mask s.fmn i⟩, rfl, rfl,
      ?_⟩
    have cleared := congrArg State.fmn (doneWith_modFmn s r (clearNamed mask))
    refine (congrArg Fmn.first cleared).trans ((clearNamed_first mask s.fmn).trans (Eq.symm ?_))
    apply filter_and_of_holds
    exact (doneWith_modFmn s r (clearNamed mask)).trans
      (congrArg (fun f => { s with fmn := f, mga := answered s.mga r .done [] }) (clearNamed_eq mask s.fmn))
  · exact ⟨doneWith (s.modFmn (clearCounted (field r.args 0 1))) r, serve_executing_accepted executing rfl rfl,
      fun j => clearCounted_counters _ s.fmn j, rfl⟩

end Sys2Proof.Machine
end

section
/-! SUPPORT. The read requests: the fields of what READ ERRORS, READ COUNTERS, QUEUE STATUS and AXIS STATUS answer. -/

namespace Sys2Proof.Machine

/-! ### Fields in front -/

theorem timeField_leBytes_append (t : Time) (b : List Byte) : timeField (leBytes 6 t.toNat ++ b) 0 = t := by
  rw [timeField_append_left (by simp), timeField_leBytes]

theorem signedField_cons_succ (x : Byte) (b : List Byte) (off size : Nat) :
    signedField (x :: b) (off + 1) size = signedField b off size := rfl

theorem timeField_cons_succ (x : Byte) (b : List Byte) (off : Nat) : timeField (x :: b) (off + 1) = timeField b off := rfl

/-! ### READ ERRORS -/

/-- The number with bit i set exactly where g holds, from the lowest bit on. -/
def bitsOf : (n : Nat) → (Fin n → Bool) → Nat
  | 0, _ => 0
  | n + 1, g => (g 0).toNat + 2 * bitsOf n fun i => g i.succ

theorem bitsOf_lt (n : Nat) (g : Fin n → Bool) : bitsOf n g < 2 ^ n := by
  induction n with
  | zero => exact Nat.one_pos
  | succ n ih =>
    have rest := ih fun i => g i.succ
    have first := Bool.toNat_le (g 0)
    rw [bitsOf, Nat.pow_succ]
    omega

theorem testBit_bitsOf (n : Nat) (g : Fin n → Bool) (i : Fin n) : (bitsOf n g).testBit i = g i := by
  induction n with
  | zero => exact i.elim0
  | succ n ih =>
    have first := Bool.toNat_le (g 0)
    rw [bitsOf]
    refine Fin.cases ?_ (fun j => ?_) i
    · cases h : g 0 <;> simp [Nat.testBit_zero, Nat.add_mod]
    · have half : ((g 0).toNat + 2 * bitsOf n fun i => g i.succ) / 2 = bitsOf n fun i => g i.succ := by omega
      rw [Fin.val_succ, Nat.testBit_succ, half, ih]

theorem sum_powers (n : Nat) (g : Fin n → Bool) :
    ((List.finRange n).map fun i => if g i then 2 ^ (i.val + 1) else 0).sum = 2 * bitsOf n g := by
  induction n with
  | zero => rfl
  | succ n ih =>
    have rest : ((List.finRange n).map fun i => if g i.succ then 2 ^ (i.val + 1 + 1) else 0).sum
        = 2 * ((List.finRange n).map fun i => if g i.succ then 2 ^ (i.val + 1) else 0).sum := by
      rw [← List.sum_map_mul_left]
      congr 2
      funext i
      split <;> ring
    rw [List.finRange_succ, List.map_cons, List.sum_cons, List.map_map]
    simp only [Function.comp_def, Fin.val_succ, Fin.val_zero, rest, ih fun i => g i.succ, bitsOf]
    cases g 0 <;> simp <;> ring

/-- R196: the flags with the two attention sources behind them. -/
def maskBits (f : Fmn) : Fin 25 → Bool :=
  Fin.lastCases f.queueWatermark (Fin.lastCases f.operationEnded fun i : Fin 23 => f.flags[i])

theorem flagMask_eq (f : Fmn) : flagMask f = 2 * bitsOf 25 (maskBits f) := by
  rw [← sum_powers, List.finRange_succ_last, List.map_append, List.sum_append, List.finRange_succ_last]
  simp only [List.map_append, List.map_map, List.sum_append, Function.comp_def, maskBits, List.map_cons, List.map_nil,
    List.sum_cons, List.sum_nil, Fin.lastCases_castSucc, Fin.lastCases_last]
  rfl

theorem testBit_double (m k : Nat) : (2 * m).testBit (k + 1) = m.testBit k := by
  rw [Nat.testBit_succ, Nat.mul_div_cancel_left _ (by decide)]

/-- R196: the bits of the flag mask. -/
theorem flagMask_testBit (f : Fmn) : (∀ i : Fin 23, (flagMask f).testBit (i.val + 1) = f.flags[i])
    ∧ (flagMask f).testBit 0 = false ∧ (flagMask f).testBit 24 = f.operationEnded
    ∧ (flagMask f).testBit 25 = f.queueWatermark ∧ flagMask f < 67108864 := by
  have bit (i : Fin 25) : (flagMask f).testBit (i.val + 1) = maskBits f i := by
    rw [flagMask_eq, testBit_double, testBit_bitsOf]
  refine ⟨fun i => ?_, ?_, ?_, ?_, ?_⟩
  · refine (bit i.castSucc.castSucc).trans ?_
    simp only [maskBits, Fin.lastCases_castSucc]
  · simp [flagMask_eq, Nat.testBit_zero]
  · refine (bit (Fin.last 23).castSucc).trans ?_
    simp only [maskBits, Fin.lastCases_castSucc, Fin.lastCases_last]
  · refine (bit (Fin.last 24)).trans ?_
    simp only [maskBits, Fin.lastCases_last]
  · have small := bitsOf_lt 25 (maskBits f)
    rw [flagMask_eq]
    omega

section
variable {f : Fmn}

/-- R196: the four parts of READ ERRORS. -/
theorem errorBytes_parts : field (errorBytes f) 0 4 = flagMask f
    ∧ (∀ off size : Nat, off + size ≤ 23 →
        field (errorBytes f) (4 + off) size = field (f.counts.toList.flatMap (leBytes 1)) off size)
    ∧ (∀ off size : Nat, off + size ≤ 13 → field (errorBytes f) (27 + off) size = field (firstBytes f.first) off size)
    ∧ field (errorBytes f) 40 1 = if attentionPending f then 1 else 0 := by
  obtain ⟨-, -, -, -, small⟩ := flagMask_testBit f
  have counts := length_countsBytes f
  have first := length_firstBytes f.first
  have fits : flagMask f % 256 ^ 4 = flagMask f := by omega
  have head : (leBytes 4 (flagMask f) ++ f.counts.toList.flatMap (leBytes 1)).length = 27 := by
    rw [List.length_append, length_leBytes, counts]
  have front : (leBytes 4 (flagMask f) ++ f.counts.toList.flatMap (leBytes 1) ++ firstBytes f.first).length = 40 := by
    rw [List.length_append, head, first]
  unfold errorBytes
  refine ⟨?_, fun off size inside => ?_, fun off size inside => ?_, ?_⟩
  · rw [field_append_left (by omega), field_append_left (by omega), field_leBytes_append, fits]
  · rw [field_append_left (by omega), field_append_left (by omega), field_append_right (by simp), length_leBytes,
      Nat.add_sub_cancel_left]
  · rw [field_append_left (by omega), field_append_right (by omega), head, Nat.add_sub_cancel_left]
  · rw [field_append_right (by omega), front, Nat.sub_self, field_singleton, toNat_flagByte]

theorem counts_read (counts : ∀ i : Fin 23, f.counts[i] ≤ 255) (i : Fin 23) :
    field (f.counts.toList.flatMap (leBytes 1)) i.val 1 = f.counts[i] := by
  have found : f.counts.toList[i.val]? = some f.counts[i] := by simp
  have read := field_flatMap (fun x => length_leBytes 1 x) found (off := 0) (n := 1) (by decide)
  rw [Nat.one_mul, Nat.add_zero] at read
  rw [read, field_leBytes]
  have := counts i
  omega

/-- R196: the items of a FIRST record. -/
theorem firstBytes_some (x : FirstRecord) : let d := firstBytes (some x)
    field d 0 1 = 1 ∧ field d 1 1 = x.kind.number ∧ field d 2 1 = x.subject % 256 ∧ timeField d 3 = x.time
      ∧ field d 9 4 = x.detail.toNat := by
  have kind : x.kind.number % 256 = x.kind.number := by cases x.kind <;> rfl
  have detail : x.detail.toNat % 4294967296 = x.detail.toNat := Nat.mod_eq_of_lt x.detail.isLt
  refine ⟨?_, ?_, ?_, ?_, ?_⟩ <;>
    simp [firstBytes, field_append_right, field_leBytes_append, field_leBytes, field_cons_zero, field_cons_succ,
      timeField_cons_succ, timeField_append_right, timeField_leBytes_append, kind, detail]

theorem firstBytes_none : field (firstBytes none) 0 13 = 0 := by decide

/-- R198: counter j of READ COUNTERS. -/
theorem counterBytes_read {j : Fin 8} (selection : f.selections[j] ≤ 27) (counter : f.counters[j] ≤ 4294967295) :
    field (counterBytes f) (5 * j.val) 1 = f.selections[j] ∧ field (counterBytes f) (1 + 5 * j.val) 4 = f.counters[j] := by
  have found : (List.finRange 8)[j.val]? = some j := by simp
  have each (i : Fin 8) : (leBytes 1 f.selections[i] ++ leBytes 4 f.counters[i]).length = 5 := by simp
  have one : f.selections[j] % 256 ^ 1 = f.selections[j] := by omega
  have four : f.counters[j] % 256 ^ 4 = f.counters[j] := by omega
  constructor
  · have read := field_flatMap each found (off := 0) (n := 1) (by decide)
    rw [Nat.add_zero] at read
    exact read.trans ((field_leBytes_append ..).trans one)
  · have read := field_flatMap each found (off := 1) (n := 4) (by decide)
    rw [Nat.add_comm (5 * j.val) 1] at read
    refine read.trans ((field_append_right (by simp)).trans ?_)
    rw [length_leBytes, Nat.sub_self, field_leBytes, four]

end

/-! ### QUEUE STATUS -/

/-- R172, R146: the items of QUEUE STATUS. -/
theorem queueBytes_read {s : State} (queue : s.rqu.queue.length ≤ 128) (sequence : s.rqu.sequence < 65536)
    (drops : s.rqu.drops ≤ 65535) (drain : s.rqu.drain ≤ 128) (entries : s.cap.entries.length ≤ 16) :
    let d := queueBytes s
    field d 0 1 = s.rqu.queue.length ∧ field d 1 2 = s.rqu.sequence
      ∧ (∀ off size, off + size ≤ 9 → field d (3 + off) size = field (oldestBytes s.rqu.queue) off size)
      ∧ field d 12 2 = s.rqu.drops ∧ field d 14 1 = s.rqu.drain
      ∧ field d 15 1 = (if offerCondition s.rqu then 1 else 0) ∧ field d 16 1 = (if s.rqu.ageDue then 1 else 0)
      ∧ field d 17 1 = s.cap.state.code ∧ field d 18 1 = s.cap.entries.length
      ∧ field d 19 1 = s.cap.entries.countP fun e => !e.record := by
  have queue' : s.rqu.queue.length % 256 = s.rqu.queue.length := by omega
  have sequence' : s.rqu.sequence % 65536 = s.rqu.sequence := by omega
  have drops' : s.rqu.drops % 65536 = s.rqu.drops := by omega
  have drain' : s.rqu.drain % 256 = s.rqu.drain := by omega
  have state' : s.cap.state.code % 256 = s.cap.state.code := by cases s.cap.state <;> rfl
  have entries' : s.cap.entries.length % 256 = s.cap.entries.length := by omega
  have zeros : (s.cap.entries.countP fun e => !e.record) ≤ s.cap.entries.length := List.countP_le_length
  have zeros' : (s.cap.entries.countP fun e => !e.record) % 256 = s.cap.entries.countP fun e => !e.record := by omega
  dsimp only
  refine ⟨?_, ?_, fun off size inside => ?_, ?_, ?_, ?_, ?_, ?_, ?_, ?_⟩
  case refine_3 =>
    simp only [queueBytes, List.append_assoc]
    rw [field_append_right (by rw [length_leBytes]; omega), length_leBytes, field_append_right (by rw [length_leBytes]; omega),
      length_leBytes,
      show 3 + off - 1 - 2 = off by omega, field_append_left (by simpa using inside)]
  all_goals
    simp [queueBytes, field_append_right, field_leBytes_append, field_leBytes, field_cons_zero, field_cons_succ,
      toNat_flagByte, queue', sequence', drops', drain', state', entries', zeros']

theorem oldestBytes_read (q : QueuedRecord) (rest : List QueuedRecord) : let d := oldestBytes (q :: rest)
    field d 0 1 = 1 ∧ field d 1 2 = q.sequence % 65536 ∧ timeField d 3 = q.body.time := by
  refine ⟨?_, ?_, ?_⟩ <;>
    simp [oldestBytes, field_leBytes_append, field_cons_zero, field_cons_succ, timeField_cons_succ,
      timeField_append_right]

theorem offerCondition_iff (q : Rqu) : offerCondition q = true ↔
    0 < q.drain ∨ (q.delivery.pull = false ∧ (q.delivery.watermark ≤ q.queue.length ∨ q.ageDue = true)) := by
  unfold offerCondition
  cases q.delivery.pull <;> simp [or_comm, or_assoc]

/-! ### AXIS STATUS -/

/-- R179: the time of an entry, 0 where there is none. -/
def timeOf (h : Option HistEntry) : Time :=
  match h with
  | some e => e.time
  | none => 0

theorem timeField_timeBytes_append (h : Option HistEntry) (b : List Byte) : timeField (timeBytes h ++ b) 0 = timeOf h := by
  cases h with
  | none =>
    rw [timeField_append_left (by simp)]
    rfl
  | some e => exact timeField_leBytes_append e.time b

/-- R79: the items of the count and the state machine. -/
theorem countItems_read {c : AxisContext} (ranged : c.ranged) (signal : c.signal < 281474976710656) :
    let d := countItems c
    let flag (b : Bool) : Nat := if b then 1 else 0
    signedField d 1 6 = c.count ∧ signedField d 7 4 = c.tracking ∧ field d 11 2 = c.pcPrev ∧ timeField d 13 = c.tAcc
      ∧ timeField d 19 = c.tSeen ∧ field d 25 1 = c.ring.length ∧ timeField d 26 = timeOf c.ring.head?
      ∧ timeField d 32 = timeOf c.ring.getLast? ∧ field d 38 1 = c.bucket ∧ field d 39 1 = flag c.overspeed
      ∧ field d 40 1 = flag c.weak ∧ field d 41 6 = c.signal := by
  obtain ⟨count, pcPrev, trackLow, trackHigh, bucket, ring, -⟩ := ranged
  obtain ⟨countLow, countHigh⟩ := (within48_iff _).1 count
  have count' := fun b => signedField_leInt_append (n := 6) (z := c.count) (b := b) (by decide)
    (by norm_num; omega) (by norm_num; omega)
  have tracking' := fun b => signedField_leInt_append (n := 4) (z := c.tracking) (b := b) (by decide) (by norm_num; omega)
    (by norm_num; omega)
  have pcPrev' : c.pcPrev % 65536 = c.pcPrev := by omega
  have ring' : c.ring.length % 256 = c.ring.length := by omega
  have bucket' : c.bucket % 256 = c.bucket := by omega
  have signal' : c.signal % 281474976710656 = c.signal := by omega
  refine ⟨?_, ?_, ?_, ?_, ?_, ?_, ?_, ?_, ?_, ?_, ?_, ?_⟩ <;>
    simp [countItems, field_append_right, field_leBytes_append, field_leBytes, field_cons_zero, field_cons_succ,
      signedField_append_right, signedField_cons_succ, timeField_cons_succ, timeField_append_right, timeField_leBytes_append,
      timeField_timeBytes_append, toNat_flagByte, count', tracking', pcPrev', ring', bucket', signal']

/-- R92: the items of the position. -/
theorem scaleItems_read {x : Axis} {applied : Int} (offset : within48 x.ctx.offset = true) (xRef : isExcess x.ctx.xRef) :
    let d := scaleItems x applied
    signedField d 0 6 = x.ctx.offset ∧ signedField d 6 4 = x.ctx.xRef
      ∧ signedField d 10 6 = if x.ctx.state = .off then 0
          else max (-140737488355327) (min 140737488355327 (rawPosition x x.ctx.count applied)) := by
  obtain ⟨offsetLow, offsetHigh⟩ := (within48_iff _).1 offset
  obtain ⟨xRefLow, xRefHigh⟩ := xRef
  have offset' := fun b => signedField_leInt_append (n := 6) (z := x.ctx.offset) (b := b) (by decide)
    (by norm_num; omega) (by norm_num; omega)
  have xRef' := fun b => signedField_leInt_append (n := 4) (z := x.ctx.xRef) (b := b) (by decide)
    (by norm_num; omega) (by norm_num; omega)
  have position : currentPosition x applied = if x.ctx.state = .off then 0
      else max (-140737488355327) (min 140737488355327 (rawPosition x x.ctx.count applied)) := by
    rw [currentPosition, saturate_eq]
  have position' : signedField (leInt 6 (currentPosition x applied)) 0 6 = currentPosition x applied := by
    have bounds : -140737488355327 ≤ currentPosition x applied ∧ currentPosition x applied ≤ 140737488355327 := by
      unfold currentPosition
      split
      · decide
      · exact saturate_mem _
    obtain ⟨low, high⟩ := bounds
    exact signedField_leInt (by decide) (by norm_num; omega) (by norm_num; omega)
  rw [← position]
  refine ⟨?_, ?_, ?_⟩ <;> simp [scaleItems, signedField_append_right, offset', xRef', position']

/-- R102: the items of the reference record. -/
theorem zeroItems_read {c : AxisContext} (shift : within48 c.zeroShift = true) : let d := zeroItems c
    timeField d 2 = c.refTime ∧ timeField d 8 = c.markTime ∧ signedField d 14 6 = c.zeroShift := by
  obtain ⟨low, high⟩ := (within48_iff _).1 shift
  have shift' : signedField (leInt 6 c.zeroShift) 0 6 = c.zeroShift :=
    signedField_leInt (by decide) (by norm_num; omega) (by norm_num; omega)
  refine ⟨?_, ?_, ?_⟩ <;>
    simp [zeroItems, timeField_cons_succ, timeField_append_right, timeField_leBytes_append, signedField_cons_succ,
      signedField_append_right, shift']

/-- R127: the items of the calibration record before its coefficients. -/
def gatheredItems (r : CalRecord) : List Byte :=
  [Config.outcomeCode r.outcome] ++ leBytes 1 r.reason ++ leBytes 1 r.required ++ leBytes 4 r.sampleLimit
    ++ leBytes 4 r.seen ++ leBytes 4 r.motion ++ leBytes 1 r.quadrants.toNat ++ [flagByte r.extremes]
    ++ leInt 2 r.maxC ++ leInt 2 r.minC ++ leInt 2 r.maxS ++ leInt 2 r.minS ++ leInt 2 r.sAtMaxC ++ leInt 2 r.sAtMinC

/-- R127: its five coefficients. -/
def coefficientItems (r : CalRecord) : List Byte :=
  coefficientBytes r.oC ++ coefficientBytes r.oS ++ coefficientBytes r.gain ++ coefficientBytes r.ks
    ++ coefficientBytes r.kc

theorem calibrationItems_eq (r : CalRecord) : calibrationItems r = gatheredItems r ++ coefficientItems r := by
  simp only [calibrationItems, gatheredItems, coefficientItems, List.append_assoc]

@[simp] theorem length_gatheredItems (r : CalRecord) : (gatheredItems r).length = 29 := by
  simp [gatheredItems]

theorem signedField_leInt_append_16 {z : Int} (fits : isS16 z) (b : List Byte) : signedField (leInt 2 z ++ b) 0 2 = z := by
  obtain ⟨low, high⟩ := fits
  exact signedField_leInt_append b (by decide) (by norm_num; omega) (by norm_num; omega)

theorem gatheredItems_read {r : CalRecord} (gathered : r.gathered) (reason : r.reason ≤ 6) (required : r.required ≤ 255)
    (limit : r.sampleLimit ≤ 1048576) (seen : r.seen ≤ 1048576) (motion : r.motion ≤ 4294967295) :
    let d := gatheredItems r
    let flag (b : Bool) : Nat := if b then 1 else 0
    field d 1 1 = r.reason ∧ field d 2 1 = r.required ∧ field d 3 4 = r.sampleLimit ∧ field d 7 4 = r.seen
      ∧ field d 11 4 = r.motion ∧ field d 15 1 = r.quadrants.toNat ∧ field d 16 1 = flag r.extremes
      ∧ signedField d 17 2 = r.maxC ∧ signedField d 19 2 = r.minC ∧ signedField d 21 2 = r.maxS
      ∧ signedField d 23 2 = r.minS ∧ signedField d 25 2 = r.sAtMaxC ∧ signedField d 27 2 = r.sAtMinC := by
  obtain ⟨maxC, minC, maxS, minS, -, atMaxLow, atMaxHigh, atMinLow, atMinHigh⟩ := gathered
  have atMax : isS16 r.sAtMaxC := by constructor <;> omega
  have atMin : isS16 r.sAtMinC := by constructor <;> omega
  have last : signedField (leInt 2 r.sAtMinC) 0 2 = r.sAtMinC := by
    simpa using signedField_leInt_append_16 atMin []
  have reason' : r.reason % 256 = r.reason := by omega
  have required' : r.required % 256 = r.required := by omega
  have limit' : r.sampleLimit % 4294967296 = r.sampleLimit := by omega
  have seen' : r.seen % 4294967296 = r.seen := by omega
  have motion' : r.motion % 4294967296 = r.motion := by omega
  have quadrants' : r.quadrants.toNat % 256 = r.quadrants.toNat := by
    have := r.quadrants.isLt
    omega
  refine ⟨?_, ?_, ?_, ?_, ?_, ?_, ?_, ?_, ?_, ?_, ?_, ?_, ?_⟩ <;>
    simp [gatheredItems, field_append_right, field_leBytes_append, field_cons_zero, field_cons_succ,
      signedField_append_right, signedField_cons_succ, toNat_flagByte, reason', required', limit', seen', motion',
      quadrants', signedField_leInt_append_16 maxC, signedField_leInt_append_16 minC, signedField_leInt_append_16 maxS,
      signedField_leInt_append_16 minS, signedField_leInt_append_16 atMax, last]

/-- R179: a coefficient that 2 bytes hold as a signed value. -/
theorem signedField_coefficientBytes {z : Int} (fits : isS16 z) (b : List Byte) :
    signedField (coefficientBytes z ++ b) 0 2 = z := by
  have whole : coefficientBytes z = leInt 2 z := if_pos ⟨fits.1, by have := fits.2; omega⟩
  rw [whole, signedField_leInt_append_16 fits]

/-- R179: a coefficient that 2 bytes hold as an unsigned value. -/
theorem field_coefficientBytes {z : Int} (low : 0 ≤ z) (high : z ≤ 65535) (b : List Byte) :
    (field (coefficientBytes z ++ b) 0 2 : Int) = z := by
  have whole : coefficientBytes z = leInt 2 z := if_pos ⟨by omega, high⟩
  rw [whole, leInt, field_leBytes_append]
  norm_num
  omega

theorem coefficientItems_read (r : CalRecord) : let d := coefficientItems r
    (isS16 r.oC → signedField d 0 2 = r.oC) ∧ (isS16 r.oS → signedField d 2 2 = r.oS)
      ∧ (0 ≤ r.gain → r.gain ≤ 65535 → (field d 4 2 : Int) = r.gain) ∧ (isS16 r.ks → signedField d 6 2 = r.ks)
      ∧ (0 ≤ r.kc → r.kc ≤ 65535 → (field d 8 2 : Int) = r.kc) := by
  simp only [coefficientItems, List.append_assoc]
  refine ⟨fun fits => signedField_coefficientBytes fits _, fun fits => ?_, fun low high => ?_, fun fits => ?_,
    fun low high => ?_⟩
  · simp [signedField_append_right, signedField_coefficientBytes fits]
  · simp [field_append_right, field_coefficientBytes low high]
  · simp [signedField_append_right, signedField_coefficientBytes fits]
  · have last := field_coefficientBytes low high []
    rw [List.append_nil] at last
    simp [field_append_right, last]

/-- The five groups of items of AXIS STATUS, in their order. -/
theorem statusBytes_parts (x : Axis) (applied : Int) (off size : Nat) :
    (off + size ≤ 47 → field (statusBytes x applied) off size = field (countItems x.ctx) off size)
    ∧ (off + size ≤ 16 → field (statusBytes x applied) (47 + off) size = field (scaleItems x applied) off size)
    ∧ (off + size ≤ 20 → field (statusBytes x applied) (63 + off) size = field (zeroItems x.ctx) off size)
    ∧ (off + size ≤ 29 → field (statusBytes x applied) (83 + off) size = field (gatheredItems x.cal) off size)
    ∧ field (statusBytes x applied) (112 + off) size = field (coefficientItems x.cal) off size := by
  have scale : (countItems x.ctx ++ scaleItems x applied).length = 63 := by simp
  have zero : (countItems x.ctx ++ scaleItems x applied ++ zeroItems x.ctx).length = 83 := by simp
  have gathered : (countItems x.ctx ++ scaleItems x applied ++ zeroItems x.ctx ++ gatheredItems x.cal).length = 112 := by
    simp
  rw [statusBytes, calibrationItems_eq, ← List.append_assoc]
  refine ⟨fun inside => ?_, fun inside => ?_, fun inside => ?_, fun inside => ?_, ?_⟩
  · rw [field_append_left (by omega), field_append_left (by omega), field_append_left (by omega),
      field_append_left (by simpa using inside)]
  · rw [field_append_left (by omega), field_append_left (by omega), field_append_left (by omega),
      field_append_right (by simp), length_countItems, Nat.add_sub_cancel_left]
  · rw [field_append_left (by omega), field_append_left (by omega), field_append_right (by omega), scale,
      Nat.add_sub_cancel_left]
  · rw [field_append_left (by omega), field_append_right (by omega), zero, Nat.add_sub_cancel_left]
  · rw [field_append_right (by omega), gathered, Nat.add_sub_cancel_left]

/-! ### The answers -/

/-- A read request of one axis. -/
theorem exec_axisStatus {s : State} {r : Request} {a : AxisId} (h : ExecutingOn s .axisStatus r a) :
    exec .axisStatus s = .next { s with
      mga := answered s.mga r .done (statusBytes s.axes[a] (appliedOf s (s.axes[a]).settings.group)) } :=
  serve_executing_data h.1 (onAxis_some h.2 s)

/-- R181, R184: READ TABLE. -/
theorem exec_readTable {s : State} {r : Request} (h : Executing s .readTable r) : exec .readTable s =
    if readInRange r.subject r.index (field r.args 0 1) then
      .next { s with mga := answered s.mga r .done (readRange s r.subject r.index (field r.args 0 1)) }
    else .next (refusedWith s r .refusedRange) := by
  split
  next inside => exact serve_executing_data h (if_pos inside)
  next outside => exact serve_executing_refused h (if_neg outside) rfl

theorem identityBytes_eq (s : State) : identityBytes s = [0x31, 0x5A, 0xAC, 0x1C, 1, BitVec.ofNat 8 s.cpt.station,
    BitVec.ofNat 8 s.cpt.controller, BitVec.ofNat 8 s.mga.cause.code, 6, 4, 16, 64, 16, 128, 0, 32, 4, 8, 4] := rfl

section
variable {f : Fmn}

/-- R196: READ ERRORS, item by item. -/
theorem errorBytes_read (legal : f.logLegal) : let d := errorBytes f
    (∀ i : Fin 23, (field d 0 4).testBit (i.val + 1) = f.flags[i] ∧ field d (4 + i.val) 1 = f.counts[i])
      ∧ (field d 0 4).testBit 0 = false ∧ (field d 0 4).testBit 24 = f.operationEnded
      ∧ (field d 0 4).testBit 25 = f.queueWatermark ∧ field d 0 4 < 67108864
      ∧ (f.first = none → field d 27 13 = 0)
      ∧ (∀ x ∈ f.first, field d 27 1 = 1 ∧ field d 28 1 = x.kind.number ∧ field d 29 1 = x.subject % 256
          ∧ timeField d 30 = x.time ∧ field d 36 4 = x.detail.toNat)
      ∧ field d 40 1 = (if attentionPending f then 1 else 0) := by
  intro d
  obtain ⟨mask, counts, first, pending⟩ := errorBytes_parts (f := f)
  obtain ⟨bits, low, ended, watermark, small⟩ := flagMask_testBit f
  rw [← mask] at bits low ended watermark small
  refine ⟨fun i => ⟨bits i, ?_⟩, low, ended, watermark, small, fun empty => ?_, fun x present => ?_, pending⟩
  · exact (counts i.val 1 (by omega)).trans (counts_read (fun j => (legal.1 j).1) i)
  · rw [first 0 13 (by decide), empty]
    exact firstBytes_none
  · have filled : f.first = some x := present
    rw [filled] at first
    obtain ⟨present, kind, subject, time, detail⟩ := firstBytes_some x
    refine ⟨(first 0 1 (by decide)).trans present, (first 1 1 (by decide)).trans kind,
      (first 2 1 (by decide)).trans subject, ?_, (first 9 4 (by decide)).trans detail⟩
    rw [timeField] at time ⊢
    rw [← time]
    exact congrArg (BitVec.ofNat 48) (first 3 6 (by decide))

end

/-- R172, R146: QUEUE STATUS, item by item. -/
theorem queueStatus_read {s : State} (bounded : s.bounded) : let d := queueBytes s
    field d 0 1 = s.rqu.queue.length ∧ field d 1 2 = s.rqu.sequence
      ∧ (s.rqu.queue = [] → field d 3 9 = 0)
      ∧ (∀ q ∈ s.rqu.queue.head?, field d 3 1 = 1 ∧ field d 4 2 = q.sequence % 65536 ∧ timeField d 6 = q.body.time)
      ∧ field d 12 2 = s.rqu.drops ∧ field d 14 1 = s.rqu.drain
      ∧ (field d 15 1 = 1 ↔ 0 < s.rqu.drain ∨ (s.rqu.delivery.pull = false
          ∧ (s.rqu.delivery.watermark ≤ s.rqu.queue.length ∨ s.rqu.ageDue = true)))
      ∧ field d 16 1 = (if s.rqu.ageDue then 1 else 0) ∧ field d 17 1 = s.cap.state.code
      ∧ field d 18 1 = s.cap.entries.length
      ∧ field d 19 1 = (s.cap.entries.filter fun e => e.record = false).length := by
  intro d
  obtain ⟨-, -, ⟨queueBound, drainBound, dropsBound, sequenceBound⟩, entriesBound⟩ := bounded
  obtain ⟨length, sequence, oldest, drops, drain, offer, age, state, entries, zeros⟩ :=
    queueBytes_read queueBound sequenceBound dropsBound (drainBound.trans queueBound) entriesBound
  refine ⟨length, sequence, fun empty => ?_, fun q head => ?_, drops, drain, ?_, age, state, entries, ?_⟩
  · rw [oldest 0 9 (by decide), empty]
    decide
  · obtain ⟨rest, whole⟩ : ∃ rest, s.rqu.queue = q :: rest := List.head?_eq_some_iff.1 head
    rw [whole] at oldest
    obtain ⟨present, number, time⟩ := oldestBytes_read q rest
    refine ⟨(oldest 0 1 (by decide)).trans present, (oldest 1 2 (by decide)).trans number, ?_⟩
    rw [timeField] at time ⊢
    rw [← time]
    exact congrArg (BitVec.ofNat 48) (oldest 3 6 (by decide))
  · rw [offer, ← offerCondition_iff]
    cases offerCondition s.rqu <;> simp
  · rw [zeros, List.countP_eq_length_filter]
    congr 2
    funext e
    cases e.record <;> rfl

/-- R79, R92, R102, R127: AXIS STATUS, item by item. -/
theorem statusBytes_read {x : Axis} {applied : Int} (ranged : x.ctx.ranged) (signal : x.ctx.signal < 281474976710656)
    (offset : within48 x.ctx.offset = true) (xRef : isExcess x.ctx.xRef) (shift : within48 x.ctx.zeroShift = true)
    (gathered : x.cal.gathered) (reason : x.cal.reason ≤ 6) (required : x.cal.required ≤ 255)
    (limit : x.cal.sampleLimit ≤ 1048576) (seen : x.cal.seen ≤ 1048576) (motion : x.cal.motion ≤ 4294967295) :
    let d := statusBytes x applied
    let c := x.ctx
    let r := x.cal
    let flag (b : Bool) : Nat := if b then 1 else 0
    (signedField d 1 6 = c.count ∧ signedField d 7 4 = c.tracking ∧ field d 11 2 = c.pcPrev ∧ timeField d 13 = c.tAcc
      ∧ timeField d 19 = c.tSeen ∧ field d 25 1 = c.ring.length ∧ timeField d 26 = timeOf c.ring.head?
      ∧ timeField d 32 = timeOf c.ring.getLast? ∧ field d 38 1 = c.bucket ∧ field d 39 1 = flag c.overspeed
      ∧ field d 40 1 = flag c.weak ∧ field d 41 6 = c.signal)
    ∧ (signedField d 47 6 = c.offset ∧ signedField d 53 4 = c.xRef
      ∧ signedField d 57 6 = if c.state = .off then 0
          else max (-140737488355327) (min 140737488355327 (rawPosition x c.count applied)))
    ∧ (timeField d 65 = c.refTime ∧ timeField d 71 = c.markTime ∧ signedField d 77 6 = c.zeroShift)
    ∧ field d 84 1 = r.reason ∧ field d 85 1 = r.required ∧ field d 86 4 = r.sampleLimit ∧ field d 90 4 = r.seen
      ∧ field d 94 4 = r.motion ∧ field d 98 1 = r.quadrants.toNat ∧ field d 99 1 = flag r.extremes
      ∧ signedField d 100 2 = r.maxC ∧ signedField d 102 2 = r.minC ∧ signedField d 104 2 = r.maxS
      ∧ signedField d 106 2 = r.minS ∧ signedField d 108 2 = r.sAtMaxC ∧ signedField d 110 2 = r.sAtMinC
      ∧ (isS16 r.oC → signedField d 112 2 = r.oC) ∧ (isS16 r.oS → signedField d 114 2 = r.oS)
      ∧ (0 ≤ r.gain → r.gain ≤ 65535 → (field d 116 2 : Int) = r.gain)
      ∧ (isS16 r.ks → signedField d 118 2 = r.ks)
      ∧ (0 ≤ r.kc → r.kc ≤ 65535 → (field d 120 2 : Int) = r.kc) := by
  intro d c r flag
  have counts (off size : Nat) := (statusBytes_parts x applied off size).1
  have scales (off size : Nat) := (statusBytes_parts x applied off size).2.1
  have zeros (off size : Nat) := (statusBytes_parts x applied off size).2.2.1
  have gathers (off size : Nat) := (statusBytes_parts x applied off size).2.2.2.1
  have coefficients (off size : Nat) := (statusBytes_parts x applied off size).2.2.2.2
  have first := countItems_read ranged signal
  have second := scaleItems_read (applied := applied) offset xRef
  have third := zeroItems_read shift
  have fourth := gatheredItems_read gathered reason required limit seen motion
  have fifth := coefficientItems_read r
  simp only [signedField, timeField] at first second third fourth fifth ⊢
  rw [← counts 1 6 (by decide), ← counts 7 4 (by decide), ← counts 11 2 (by decide), ← counts 13 6 (by decide),
    ← counts 19 6 (by decide), ← counts 25 1 (by decide), ← counts 26 6 (by decide), ← counts 32 6 (by decide),
    ← counts 38 1 (by decide), ← counts 39 1 (by decide), ← counts 40 1 (by decide),
    ← counts 41 6 (by decide)] at first
  rw [← scales 0 6 (by decide), ← scales 6 4 (by decide), ← scales 10 6 (by decide)] at second
  rw [← zeros 2 6 (by decide), ← zeros 8 6 (by decide), ← zeros 14 6 (by decide)] at third
  rw [← gathers 1 1 (by decide), ← gathers 2 1 (by decide), ← gathers 3 4 (by decide), ← gathers 7 4 (by decide),
    ← gathers 11 4 (by decide), ← gathers 15 1 (by decide), ← gathers 16 1 (by decide), ← gathers 17 2 (by decide),
    ← gathers 19 2 (by decide), ← gathers 21 2 (by decide), ← gathers 23 2 (by decide), ← gathers 25 2 (by decide),
    ← gathers 27 2 (by decide)] at fourth
  rw [← coefficients 0 2, ← coefficients 2 2, ← coefficients 4 2, ← coefficients 6 2, ← coefficients 8 2] at fifth
  obtain ⟨reason', required', limit', seen', motion', quadrants, extremes, maxC, minC, maxS, minS, atMax, atMin⟩ := fourth
  exact ⟨first, second, third, reason', required', limit', seen', motion', quadrants, extremes, maxC, minC, maxS, minS,
    atMax, atMin, fifth⟩

/-- Settles O32: the answers, and their items by the layout of each. -/
theorem readRequestsChangeOnlyTheAnswer : Obligations.ReadRequestsChangeOnlyTheAnswer := by
  unfold Obligations.ReadRequestsChangeOnlyTheAnswer
  refine ⟨fun s r => ⟨fun executing => ?_, fun executing inside => ?_, fun executing outside => ?_,
      fun a executing => ⟨_, exec_axisStatus executing, length_statusBytes .., rfl⟩,
      fun executing outside => serve_onAxis_outside executing outside,
      fun executing => ⟨serve_executing_data executing rfl, length_queueBytes s⟩,
      fun executing => ⟨serve_executing_data executing rfl, length_errorBytes s.fmn⟩,
      fun executing => ⟨serve_executing_data executing rfl, length_counterBytes s.fmn⟩⟩,
    fun f legal => ?_, fun s bounded => ?_, ?_⟩
  · intro data
    exact serve_executing_data (data := data) executing (congrArg (Answer.mk s .done) (identityBytes_eq s))
  · refine ⟨_, (exec_readTable executing).trans (if_pos inside), length_readRange_le s inside, rfl,
      fun notHeader shape isShape => ?_, fun header => length_readRange_header s header⟩
    obtain ⟨-, header | ⟨⟨indices, size⟩, found, fits, -⟩⟩ := (readInRange_iff ..).1 inside
    · exact absurd header (by simp [notHeader])
    · cases isShape.symm.trans found
      exact length_readRange s found fits
  · exact (exec_readTable executing).trans (if_neg (by simp [outside]))
  · intro d c
    obtain ⟨bits, low, ended, watermark, small, empty, first, pending⟩ := errorBytes_read legal
    refine ⟨bits, low, ended, watermark, small, empty, first, pending, fun j => ?_⟩
    exact counterBytes_read (legal.2.1 j).2 (legal.2.1 j).1
  · intro d
    obtain ⟨length, sequence, empty, oldest, drops, drain, offer, age, state, entries, zeros⟩ := queueStatus_read bounded
    refine ⟨length, sequence, empty, oldest, drops, drain, offer, age, state.trans ?_, entries, zeros⟩
    cases s.cap.state <;> rfl
  · intro x applied ranged signal offset xRef shift gathered reason required limit seen motion d c r flag time
    have sameTime (h : Option HistEntry) : timeOf h = time h := by cases h <;> rfl
    have items := statusBytes_read (applied := applied) ranged signal offset xRef shift gathered reason required limit seen
      motion
    simp only [sameTime] at items
    exact items

end Sys2Proof.Machine
end

section
/-! SUPPORT. FMN, SCU, the window gate and RQU: what each takes of the messages handed to it. -/

namespace Sys2Proof.Machine

/-! ### FMN (R190, R195, R197) -/

/-- The first element that satisfies p, with what stands before and behind it. -/
theorem takeFirst_append {α : Type} {p : α → Bool} {front rest : List α} {x : α} (before : ∀ y ∈ front, p y = false)
    (holds : p x = true) : takeFirst p (front ++ x :: rest) = some (x, front ++ rest) := by
  induction front with
  | nil => simp [takeFirst, holds]
  | cons y front ih =>
    rw [List.forall_mem_cons] at before
    simp [takeFirst, before.1, ih before.2]

theorem not_source_eq {front : List α} {source : α → Block} {b : Block} (others : ∀ x ∈ front, source x ≠ b) :
    ∀ x ∈ front, (source x == b) = false :=
  fun x hx => beq_eq_false_iff_ne.2 (others x hx)

/-- R190: equal raises taken. -/
theorem takeRaises_eq (m : RaiseMsg) (times : Nat) (s : State) : takeRaises m times s = { s with
    fmn := { s.fmn with
      flags := s.fmn.flags.set m.kind.index.val true m.kind.index.isLt
      counts := s.fmn.counts.set m.kind.index.val (min 255 (s.fmn.counts[m.kind.index] + times)) m.kind.index.isLt
      first := if s.fmn.first = none then some ⟨m.kind, m.subject, s.cpt.observed, m.detail⟩ else s.fmn.first }
    bus := { s.bus with
      halts := if (s.fmn.routes[m.kind.index]).halt then s.bus.halts + times else s.bus.halts } } := by
  have first : (match s.fmn.first with
      | none => some ⟨m.kind, m.subject, s.cpt.observed, m.detail⟩
      | some x => some x)
      = if s.fmn.first = none then some ⟨m.kind, m.subject, s.cpt.observed, m.detail⟩ else s.fmn.first := by
    cases s.fmn.first <;> rfl
  rw [← first]
  unfold takeRaises
  dsimp only
  by_cases halt : (s.fmn.routes[m.kind.index]).halt = true
  · rw [if_pos halt]
    exact if_pos halt
  · rw [if_neg halt]
    exact if_neg halt

theorem attentionPending_iff (f : Fmn) : attentionPending f = true ↔
    (∃ i : Fin 23, f.flags[i] = true ∧ (f.routes[i]).attention = true) ∨ f.operationEnded = true
      ∨ f.queueWatermark = true := by
  simp [attentionPending, or_assoc]

theorem setSource_eq (w : AttentionSource) (f : Fmn) : setSource w f = { f with
    operationEnded := f.operationEnded || w == .operationEnded
    queueWatermark := f.queueWatermark || w == .queueWatermark } := by
  cases w
  · have here : (AttentionSource.operationEnded == .operationEnded) = true := rfl
    have other : (AttentionSource.operationEnded == .queueWatermark) = false := rfl
    rw [here, other, Bool.or_true, Bool.or_false]
    rfl
  · have here : (AttentionSource.queueWatermark == .queueWatermark) = true := rfl
    have other : (AttentionSource.queueWatermark == .operationEnded) = false := rfl
    rw [here, other, Bool.or_true, Bool.or_false]
    rfl

theorem attentionPending_setSource (w : AttentionSource) (f : Fmn) : attentionPending (setSource w f) = true := by
  rw [attentionPending_iff]
  cases w
  · exact .inr (.inl rfl)
  · exact .inr (.inr rfl)

theorem countEvent_counters (e : Event) (f : Fmn) (j : Fin 8) : (countEvent e f).counters[j] =
    if f.selections[j] = e.number then min 4294967295 (f.counters[j] + 1) else f.counters[j] := by
  simp [countEvent]

/-- Settles O60: the oldest message of the block is the first of its source. -/
theorem raisesReportsAndSourcesAreTaken : Obligations.RaisesReportsAndSourcesAreTaken := by
  unfold Obligations.RaisesReportsAndSourcesAreTaken
  refine ⟨fun s m front rest raises others => ?_, fun s m front rest reports others => ?_,
    fun s m front rest sources others => ?_, attentionPending_iff, fun s => ⟨rfl, ?_⟩⟩
  · intro i
    have taken := takeFirst_append (p := fun x : RaiseMsg => x.source == m.source) (rest := rest) (not_source_eq others)
      (beq_self_eq_true _)
    refine congrArg Host.Outcome.next ?_
    rw [raises, taken]
    exact takeRaises_eq m 1 _
  · have taken := takeFirst_append (p := fun x : ReportMsg => x.source == m.source) (rest := rest) (not_source_eq others)
      (beq_self_eq_true _)
    refine ⟨(s.modBus fun b => { b with
      reports := if m.more = 0 then front ++ rest else { m with more := m.more - 1 } :: (front ++ rest) }).modFmn
        (countEvent m.event), congrArg Host.Outcome.next ?_, countEvent_counters m.event s.fmn, rfl⟩
    rw [reports, taken]
  · have taken := takeFirst_append (p := fun x : SourceMsg => x.source == m.source) (rest := rest) (not_source_eq others)
      (beq_self_eq_true _)
    have next : exec (.attentionSourceRaise m.source) s =
        .next ((s.modBus fun b => { b with sources := front ++ rest }).modFmn (setSource m.which)) := by
      refine congrArg Host.Outcome.next ?_
      rw [sources, taken]
    refine ⟨next.trans (congrArg Host.Outcome.next ?_), fun t run => ?_⟩
    · rw [← setSource_eq]
      rfl
    · cases next.symm.trans run
      exact attentionPending_setSource m.which s.fmn
  · simp [linkOutput, assigned, and_assoc]

/-! ### SCU (R85, R86) -/

/-- R85, step 3: within the slew limit the applied value becomes v. -/
theorem slewed_eq_self_iff {slew : Nat} {applied v : Int} :
    slewed slew applied v = v ↔ slew = 0 ∨ |v - applied| ≤ slew := by
  unfold slewed
  by_cases within : slew = 0 ∨ |v - applied| ≤ slew
  · rw [if_pos within]
    exact iff_of_true rfl within
  · rw [if_neg within]
    obtain ⟨limited, far⟩ := not_or.1 within
    have far' : (slew : Int) < |v - applied| := not_le.1 far
    refine iff_of_false (fun same => ?_) within
    split at same
    next up =>
      rw [abs_of_pos up] at far'
      omega
    next down =>
      rw [abs_of_nonpos (not_lt.1 down)] at far'
      omega

theorem slewed_beyond {slew : Nat} {applied v : Int} (beyond : ¬(slew = 0 ∨ |v - applied| ≤ slew)) :
    slewed slew applied v = if applied < v then applied + slew else applied - slew := by
  rw [slewed, if_neg beyond]
  simp only [sub_pos]

/-- R85: a value taken, in one state. -/
theorem takeEnvValue_eq {m : EnvMsg} {s : State} {v : Int} (limited : clamp (-indexLimit) indexLimit m.value = v) :
    let x := s.scu.groups[m.group]
    takeEnvValue m s = { s with
      scu := { s.scu with groups := s.scu.groups.set m.group.val { x with
        lastValue := v, lastTime := s.cpt.observed, applied := slewed x.slewLimit x.applied v, stale := false } m.group.isLt }
      bus := { s.bus with raises := s.bus.raises
        ++ (if v = m.value then [] else [⟨.scu, .envClamped, m.group.val, BitVec.ofInt 32 m.value, 0⟩])
        ++ (if x.slewLimit = 0 ∨ |v - x.applied| ≤ x.slewLimit then []
          else [⟨.scu, .envClamped, m.group.val, BitVec.ofInt 32 (v - x.applied), 0⟩]) } } := by
  intro x
  have slews := slewed_eq_self_iff (slew := x.slewLimit) (applied := x.applied) (v := v)
  unfold takeEnvValue
  dsimp only
  rw [limited]
  by_cases inside : v = m.value
  · rw [if_pos inside, if_pos inside, List.append_nil]
    by_cases within : x.slewLimit = 0 ∨ |v - x.applied| ≤ x.slewLimit
    · rw [if_pos within, List.append_nil]
      exact if_pos (slews.2 within)
    · rw [if_neg within]
      exact if_neg (mt slews.1 within)
  · rw [if_neg inside, if_neg inside]
    by_cases within : x.slewLimit = 0 ∨ |v - x.applied| ≤ x.slewLimit
    · rw [if_pos within, List.append_nil]
      exact if_pos (slews.2 within)
    · rw [if_neg within]
      exact if_neg (mt slews.1 within)

/-- R85: the oldest value handed over is taken. -/
theorem exec_envValue {s : State} {g : GroupId} {received v : Int} {rest : List EnvMsg}
    (values : s.bus.envValues = ⟨g, received⟩ :: rest) (limited : clamp (-indexLimit) indexLimit received = v) :
    let x := s.scu.groups[g]
    exec .envValue s = .next { s with
      scu := { s.scu with groups := s.scu.groups.set g.val { x with
        lastValue := v, lastTime := s.cpt.observed, applied := slewed x.slewLimit x.applied v, stale := false } g.isLt }
      bus := { s.bus with
        envValues := rest
        raises := s.bus.raises
          ++ (if v = received then [] else [⟨.scu, .envClamped, g.val, BitVec.ofInt 32 received, 0⟩])
          ++ (if x.slewLimit = 0 ∨ |v - x.applied| ≤ x.slewLimit then []
            else [⟨.scu, .envClamped, g.val, BitVec.ofInt 32 (v - x.applied), 0⟩]) } } := by
  intro x
  refine congrArg Host.Outcome.next ?_
  rw [values]
  exact takeEnvValue_eq (m := ⟨g, received⟩) (s := s.modBus fun b => { b with envValues := rest }) limited

theorem clamp_of_excess {v : Int} (inside : isExcess v) : clamp (-indexLimit) indexLimit v = v :=
  clamp_of_mem inside.1 inside.2

/-- R85: a value out of range becomes the nearer end. -/
theorem clamp_of_not_excess {v : Int} (outside : ¬isExcess v) :
    clamp (-indexLimit) indexLimit v = if 0 < v then 1000000 else -1000000 := by
  rw [clamp_eq (by decide)]
  unfold isExcess at outside
  simp only [indexLimit]
  split <;> omega

/-- The nearer end of the range is another value than one out of range. -/
theorem ne_of_outside {v : Int} (outside : ¬isExcess v) : ¬(if 0 < v then 1000000 else -1000000) = v := by
  unfold isExcess at outside
  split <;> omega

/-- R86: group g's deadline is passed at the advance to t. -/
def goesStale (s : State) (t : Time) (g : GroupId) : Bool :=
  !(s.scu.groups[g]).stale && later t (after (s.scu.groups[g]).lastTime (s.scu.groups[g]).staleLimit)

/-- R86: ENV_STALE of group g. -/
def staleRaise (s : State) (g : GroupId) : RaiseMsg :=
  ⟨.scu, .envStale, g.val, BitVec.ofInt 32 (s.scu.groups[g]).applied, 0⟩

theorem checkStale_eq (t : Time) (s : State) (g : GroupId) : checkStale t s g = if goesStale s t g then
      { s with
        scu := { s.scu with groups := modifyAt s.scu.groups g fun y => { y with stale := true } }
        bus := { s.bus with raises := s.bus.raises ++ [staleRaise s g] } }
    else s := rfl

/-- R86: the groups of a list without repetitions checked one after another. -/
theorem foldl_checkStale (t : Time) (l : List GroupId) (distinct : l.Nodup) (s : State) :
    ∃ groups, l.foldl (checkStale t) s = { s with
        scu := { s.scu with groups := groups }
        bus := { s.bus with raises := s.bus.raises ++ (l.filter (goesStale s t)).map (staleRaise s) } }
      ∧ ∀ g : GroupId, groups[g] = if g ∈ l ∧ goesStale s t g = true then { s.scu.groups[g] with stale := true }
        else s.scu.groups[g] := by
  induction l generalizing s with
  | nil => exact ⟨s.scu.groups, by simp, by simp⟩
  | cons a l ih =>
    obtain ⟨fresh, distinct⟩ := List.nodup_cons.1 distinct
    obtain ⟨groups, state, entries⟩ := ih distinct (checkStale t s a)
    have kept (g : GroupId) (other : a ≠ g) : (checkStale t s a).scu.groups[g] = s.scu.groups[g] := by
      rw [checkStale_eq]
      split
      · exact modifyAt_other _ _ _ _ other
      · rfl
    have later (g : GroupId) (mem : g ∈ l) : goesStale (checkStale t s a) t g = goesStale s t g
        ∧ staleRaise (checkStale t s a) g = staleRaise s g := by
      have other : a ≠ g := fun same => fresh (same ▸ mem)
      simp only [goesStale, staleRaise, kept g other, and_self]
    have raises : (l.filter (goesStale (checkStale t s a) t)).map (staleRaise (checkStale t s a))
        = (l.filter (goesStale s t)).map (staleRaise s) := by
      rw [List.filter_congr fun g mem => (later g mem).1]
      exact List.map_congr_left fun g mem => (later g (List.mem_of_mem_filter mem)).2
    rw [raises] at state
    refine ⟨groups, ?_, fun g => ?_⟩
    · rw [List.foldl_cons, state, checkStale_eq]
      by_cases stale : goesStale s t a = true
      · simp [stale]
      · simp [stale]
    · rw [entries g]
      by_cases same : a = g
      · subst same
        have not : ¬(a ∈ l ∧ goesStale (checkStale t s a) t a = true) := fun both => fresh both.1
        rw [if_neg not, checkStale_eq]
        by_cases stale : goesStale s t a = true
        · rw [if_pos stale, if_pos ⟨List.mem_cons_self, stale⟩]
          exact modifyAt_same _ _ _
        · rw [if_neg stale, if_neg fun both => stale both.2]
      · have member : g ∈ a :: l ↔ g ∈ l := by simp [Ne.symm same]
        by_cases mem : g ∈ l
        · rw [(later g mem).1, kept g same]
          simp only [member]
        · rw [if_neg fun both => mem both.1, if_neg fun both => mem (member.1 both.1), kept g same]

/-- Settles O53: clamped, slewed, and gone stale. -/
theorem airValuesAreAppliedUnderTheSlewLimit : Obligations.AirValuesAreAppliedUnderTheSlewLimit := by
  unfold Obligations.AirValuesAreAppliedUnderTheSlewLimit
  refine ⟨fun s g v rest values inside => ?_, fun s g v rest values outside free => ?_, fun s g v rest values outside => ?_,
    fun s time rest advances => ?_⟩
  · intro x after
    have taken := exec_envValue values (clamp_of_excess inside)
    dsimp only at taken
    rw [if_pos rfl, List.append_nil] at taken
    refine ⟨fun within => ?_, fun limited far => ?_⟩
    · rw [if_pos within, List.append_nil, slewed_eq_self_iff.2 within] at taken
      exact taken
    · have beyond : ¬(x.slewLimit = 0 ∨ |v - x.applied| ≤ x.slewLimit) := not_or.2 ⟨limited, not_le.2 far⟩
      rw [if_neg beyond, slewed_beyond beyond] at taken
      exact taken
  · intro nearer
    have taken := exec_envValue values (clamp_of_not_excess outside)
    dsimp only at taken
    have within : (s.scu.groups[g]).slewLimit = 0 ∨ |nearer - (s.scu.groups[g]).applied| ≤ (s.scu.groups[g]).slewLimit :=
      .inl free
    rw [if_neg (ne_of_outside outside), if_pos within, List.append_nil, slewed_eq_self_iff.2 within] at taken
    exact taken
  · intro x nearer beyond
    have taken := exec_envValue values (clamp_of_not_excess outside)
    dsimp only at taken
    rw [if_neg (ne_of_outside outside)] at taken
    have isBeyond : beyond ↔ ¬(x.slewLimit = 0 ∨ |nearer - x.applied| ≤ x.slewLimit) := by
      rw [not_or, not_le]
    by_cases within : x.slewLimit = 0 ∨ |nearer - x.applied| ≤ x.slewLimit
    · have notBeyond : ¬beyond := fun b => isBeyond.1 b within
      rw [if_pos notBeyond, if_neg notBeyond]
      rw [if_pos within, slewed_eq_self_iff.2 within, List.append_nil] at taken
      exact taken
    · have isFar : beyond := isBeyond.2 within
      rw [if_neg (not_not.2 isFar), if_pos isFar]
      rw [if_neg within, slewed_beyond within, List.append_assoc] at taken
      exact taken
  · intro due
    have distinct : ([0, 1, 2, 3] : List GroupId).Nodup := by decide
    have every (g : GroupId) : g ∈ ([0, 1, 2, 3] : List GroupId) := by revert g; decide
    obtain ⟨groups, state, entries⟩ := foldl_checkStale time [0, 1, 2, 3] distinct
      (s.modBus fun b => { b with scuAdvances := rest })
    have all : groups = Vector.ofFn fun g => if due g then { s.scu.groups[g] with stale := true } else s.scu.groups[g] := by
      refine Vector.ext fun i hi => ?_
      rw [Vector.getElem_ofFn]
      refine (entries ⟨i, hi⟩).trans ?_
      simp only [every, true_and]
      rfl
    refine congrArg Host.Outcome.next ?_
    rw [advances]
    refine state.trans ?_
    rw [all]
    rfl

end Sys2Proof.Machine
end

section
/-! SUPPORT. The Axis Engines: samples that are not counted (R58 to R60), the loss of an axis (R76, R77) and the ends of a
calibration (R116 to R126), each as a whole next state. -/

namespace Sys2Proof.Machine

/-! ### Calibrations -/

theorem fedRecord_none (r : CalRecord) : fedRecord r none = { r with seen := r.seen + 1 } := rfl

/-- R118, R119: the record fed with a strong sample, value by value. -/
theorem fedRecord_some (r : CalRecord) (c sn : Int) (pc : Nat) (delta : Int) : fedRecord r (some (c, sn, pc, delta)) =
    { r with
      seen := r.seen + 1
      motion := min 4294967295 (r.motion + delta.natAbs), quadrants := r.quadrants ||| (1#4 <<< (pc / 1024))
      extremes := true
      maxC := if r.extremes = true ∧ c ≤ r.maxC then r.maxC else c
      sAtMaxC := if r.extremes = true ∧ c ≤ r.maxC then r.sAtMaxC else sn
      minC := if r.extremes = true ∧ r.minC ≤ c then r.minC else c
      sAtMinC := if r.extremes = true ∧ r.minC ≤ c then r.sAtMinC else sn
      maxS := if r.extremes = true ∧ sn ≤ r.maxS then r.maxS else sn
      minS := if r.extremes = true ∧ r.minS ≤ sn then r.minS else sn } := by
  unfold fedRecord feedMotion feedExtremes
  cases started : r.extremes with
  | false => simp
  | true =>
    have high : max r.maxS sn = if sn ≤ r.maxS then r.maxS else sn := max_def' r.maxS sn
    have low : min r.minS sn = if r.minS ≤ sn then r.minS else sn := min_def r.minS sn
    by_cases above : r.maxC < c <;> by_cases below : c < r.minC <;>
      simp [above, below, high, low, not_le.2, not_lt.1]

section
variable {s : State} {a : AxisId}

/-- An ended calibration with the errors it raises. -/
def calEnded (s : State) (a : AxisId) (y : Axis) (errors : List RaiseMsg) : State :=
  { s with
    axes := s.axes.set a.val y a.isLt
    bus := { s.bus with
      raises := s.bus.raises ++ errors, sources := s.bus.sources ++ [⟨.axe a, .operationEnded⟩] } }

theorem applyCalEnd_rejected (y : Axis) (reason : Nat) : applyCalEnd s a ⟨y, some reason⟩ =
    calEnded s a y [⟨.axe a, .calibrationRejected, a.val, BitVec.ofNat 32 reason, 0⟩] := by
  rw [← BitVec.ofInt_natCast]
  rfl

theorem applyCalEnd_passed (y : Axis) : applyCalEnd s a ⟨y, none⟩ = calEnded s a y [] := by
  rw [calEnded, List.append_nil]
  rfl

/-- R122, R123: the ends of a completed calibration, by the first test that fails. -/
theorem applyCalEnd_complete (x : Axis) (fed : CalRecord) :
    let offsets := formOffsets fed
    let gain := formGain offsets
    let sine := formKs gain
    let result := formKc sine
    let new := withCoefficients x.settings result
    let rejected (r : CalRecord) (reason : Nat) : State :=
      calEnded s a { x with cal := { r with outcome := .rejected, reason := reason } }
        [⟨.axe a, .calibrationRejected, a.val, BitVec.ofNat 32 reason, 0⟩]
    applyCalEnd s a (completeCalibration x fed) =
      if offsets.spanC < 2 * x.settings.wLo then rejected offsets 1
      else if offsets.spanS = 0 ∨ offsets.spanS < 2 * x.settings.wLo then rejected offsets 2
      else if gain.gain < 8192 ∨ 32768 < gain.gain then rejected gain 3
      else if 4096 < |sine.ks| then rejected sine 4
      else if stage1 new x.ctx.lastC x.ctx.lastS = (0, 0) then rejected result 5
      else calEnded s a { x with
        settings := new, ctx := { x.ctx with pcPrev := phaseOf x.nonlinear (stage1 new x.ctx.lastC x.ctx.lastS) }
        cal := { result with outcome := .installed } } [] := by
  intro offsets gain sine result new rejected
  unfold completeCalibration
  simp only [apply_ite (applyCalEnd s a), rejectWith, installResult, applyCalEnd_rejected, applyCalEnd_passed]
  rfl

end

section
variable {s : State} {a : AxisId} {r : CalRecord}

/-- R120: enough motion and all four quadrants. -/
theorem calComplete_iff : calComplete r = true ↔ r.required * 4096 ≤ r.motion ∧ r.quadrants = 15#4 := by
  simp [calComplete]

/-- R124: the end by timeout. -/
theorem applyCalEnd_timesOut (x : Axis) : applyCalEnd s a (calibrationTimesOut x r) =
    calEnded s a { x with cal := { r with outcome := .timeout, reason := 6 } }
      [⟨.axe a, .calibrationRejected, a.val, BitVec.ofNat 32 6, 0⟩] :=
  applyCalEnd_rejected _ 6

/-- A seen sample that is not strong counts and may end the calibration by timeout. -/
theorem offerToCalibration_none (running : (s.axes[a]).cal.outcome = .running) : offerToCalibration s a none =
    if (s.axes[a]).cal.seen + 1 < (s.axes[a]).cal.sampleLimit then
      s.modAxis a fun y => { y with cal := fedRecord (s.axes[a]).cal none }
    else applyCalEnd s a (calibrationTimesOut s.axes[a] (fedRecord (s.axes[a]).cal none)) := by
  rw [offerToCalibration_eq, if_neg (not_not.2 running), if_neg (by simp), fedRecord_none]
  simp only [← Nat.not_lt, ite_not]

/-- R120: a strong sample first completes the calibration, or else counts toward its limit. -/
theorem offerToCalibration_some (running : (s.axes[a]).cal.outcome = .running) {v : Int × Int × Nat × Int}
    {fed : CalRecord} (isFed : fedRecord (s.axes[a]).cal (some v) = fed)
    (seen : fed.seen = (s.axes[a]).cal.seen + 1) (limit : fed.sampleLimit = (s.axes[a]).cal.sampleLimit) :
    offerToCalibration s a (some v) =
      if fed.required * 4096 ≤ fed.motion ∧ fed.quadrants = 15#4 then applyCalEnd s a (completeCalibration s.axes[a] fed)
      else if (s.axes[a]).cal.seen + 1 < (s.axes[a]).cal.sampleLimit then s.modAxis a fun y => { y with cal := fed }
      else applyCalEnd s a (calibrationTimesOut s.axes[a] fed) := by
  rw [offerToCalibration_eq, if_neg (not_not.2 running), isFed, seen, limit]
  simp only [Option.isSome_some, Bool.true_and, calComplete_iff, ← Nat.not_lt, ite_not]

/-- R125: a running calibration is aborted. -/
theorem abortCalibration_running (running : (s.axes[a]).cal.outcome = .running) : abortCalibration s a =
    { s with
      axes := s.axes.set a.val { s.axes[a] with cal := { (s.axes[a]).cal with outcome := .aborted } } a.isLt
      bus := { s.bus with sources := s.bus.sources ++ [⟨.axe a, .operationEnded⟩] } } := by
  have aborted : abortCal (s.axes[a]).cal = { (s.axes[a]).cal with outcome := .aborted } := if_pos running
  rw [abortCalibration, if_pos running, ← aborted]
  rfl

end

/-- Settles O42: the requests by their tests, a sample by what the fed record reaches. -/
theorem calibrationsStartAbortAndTimeOut : Obligations.CalibrationsStartAbortAndTimeOut := by
  unfold Obligations.CalibrationsStartAbortAndTimeOut
  refine ⟨fun s r a => ?_, fun s a running last => congrArg Host.Outcome.next ?_, fun s a => ?_⟩
  · intro x m samples refused
    have counts (counting : x.ctx.counting = true) : ¬x.ctx.counting = false := by simp [counting]
    refine ⟨fun executing => ⟨fun outside => serve_onAxis_refused executing (if_pos outside) rfl,
        fun required low high => ?_⟩, fun executing => ⟨fun running => ?_, fun idle => ?_⟩⟩
    · have inside : ¬(m < 2 ∨ samples < 1024 ∨ 1048576 < samples) := by omega
      refine ⟨fun other => ?_, fun counting busy => ?_, fun counting idle => ?_⟩
      · exact serve_onAxis_refused executing ((if_neg inside).trans (if_pos other)) rfl
      · have answer : calibrateAxis a r s = plain s .busy :=
          (if_neg inside).trans ((if_neg (counts counting)).trans (if_pos busy))
        exact serve_onAxis_accepted executing answer rfl
      · have answer : calibrateAxis a r s = plain (s.modAxis a fun y => { y with cal := startedCalibration m samples }) .started :=
          (if_neg inside).trans ((if_neg (counts counting)).trans (if_neg idle))
        exact serve_onAxis_accepted executing answer rfl
    · have answer : abortAxis a r s = plain (abortCalibration s a) .done := if_pos running
      rw [abortCalibration_running running] at answer
      exact serve_onAxis_accepted executing answer rfl
    · exact serve_onAxis_refused executing (if_neg idle) rfl
  · exact (if_pos ⟨running, last.le⟩).trans (applyCalEnd_timesOut _)
  · intro x r goesOn ends rejected more
    refine ⟨fun idle sample => (offerToCalibration_eq s a sample).trans (if_pos idle), fun running => ⟨?_, ?_⟩⟩
    · refine (offerToCalibration_none running).trans ?_
      rw [applyCalEnd_timesOut]
      rfl
    · intro c sn delta pc fed spanC spanS offsets gain sine result new last ended
      refine (offerToCalibration_some running (fedRecord_some r c sn pc delta) rfl rfl).trans ?_
      rw [applyCalEnd_timesOut, applyCalEnd_complete]
      rfl

/-! ### Silence and the chain-down loss -/

section
variable {s : State} {a : AxisId}

/-- R126: what the engine raises as a calibration that runs ends with its axis. -/
theorem abortCalibration_eq : abortCalibration s a = { s with
    axes := s.axes.set a.val { s.axes[a] with cal := abortCal (s.axes[a]).cal } a.isLt
    bus := { s.bus with sources := s.bus.sources
      ++ (if (s.axes[a]).cal.outcome = .running then [⟨.axe a, .operationEnded⟩] else []) } } := by
  have axes := abortCalibration_axes s a
  have whole : abortCalibration s a = { s with
      axes := (abortCalibration s a).axes
      bus := { s.bus with sources := s.bus.sources
        ++ (if (s.axes[a]).cal.outcome = .running then [⟨.axe a, .operationEnded⟩] else []) } } := by
    unfold abortCalibration
    by_cases running : (s.axes[a]).cal.outcome = .running
    · rw [if_pos running, if_pos running]
      rfl
    · rw [if_neg running, if_neg running, List.append_nil]
  rw [whole, axes]
  rfl

/-- R76, R77: the loss of an axis. -/
theorem loseAxis_eq (detail : Int) : loseAxis a detail s = { s with
    axes := s.axes.set a.val { s.axes[a] with
      ctx := { (s.axes[a]).ctx with state := .lost }, cal := abortCal (s.axes[a]).cal } a.isLt
    bus := { s.bus with
      raises := s.bus.raises ++ [⟨.axe a, .axisLost, a.val, BitVec.ofInt 32 detail, 0⟩]
      sources := s.bus.sources
        ++ (if (s.axes[a]).cal.outcome = .running then [⟨.axe a, .operationEnded⟩] else []) } } := by
  have axes := loseAxis_axes a detail s
  have entry : (((s.modCtx a fun c => { c with state := .lost }).raise (.axe a) .axisLost a.val detail).axes[a])
      = { s.axes[a] with ctx := { (s.axes[a]).ctx with state := .lost } } := modifyAt_same s.axes a _
  have whole : loseAxis a detail s = { s with
      axes := (loseAxis a detail s).axes
      bus := { s.bus with
        raises := s.bus.raises ++ [⟨.axe a, .axisLost, a.val, BitVec.ofInt 32 detail, 0⟩]
        sources := s.bus.sources
          ++ (if (s.axes[a]).cal.outcome = .running then [⟨.axe a, .operationEnded⟩] else []) } } := by
    unfold loseAxis
    dsimp only
    rw [abortCalibration_eq, entry]
    rfl
  rw [whole, axes]
  rfl

theorem popLinkEvent_eq {e : LinkEvent} {rest : List LinkEvent} (events : s.bus.linkEvents[a] = e :: rest) :
    popLinkEvent a s = { s with bus := { s.bus with linkEvents := s.bus.linkEvents.set a.val rest a.isLt } } := by
  have dropped : (s.bus.linkEvents[a]).drop 1 = rest := by rw [events]; rfl
  rw [← dropped]
  rfl

end

/-- Settles O50: the silence check by its cases, and the loss of a counting axis. -/
theorem silenceAndChainLossLoseCountingAxes : Obligations.SilenceAndChainLossLoseCountingAxes := by
  unfold Obligations.SilenceAndChainLossLoseCountingAxes
  intro s a rest x lost popped
  refine ⟨fun time events => ?_, fun events => ?_⟩
  · have next : exec (.axisSilence a) s = .next (checkSilence a time popped) := by
      refine congrArg Host.Outcome.next ?_
      rw [events]
      exact congrArg (checkSilence a time) (popLinkEvent_eq events)
    intro passed
    have isSilent : silent (popped.axes[a]) time = passed := rfl
    refine ⟨fun isPassed counting => ?_, fun isPassed acquire clear => ?_, fun keeps => ?_⟩
    · have check : checkSilence a time popped = loseAxis a 0 popped := by
        simp only [checkSilence, isSilent, isPassed, Bool.not_true, Bool.false_eq_true, if_false]
        exact if_pos counting
      rw [next, check, loseAxis_eq]
      rfl
    · have notCounting : ¬x.ctx.counting = true := by simp [AxisContext.counting, acquire]
      have check : checkSilence a time popped =
          (popped.modCtx a fun c => { c with silenceMark := true }).raise
            (.axe a) .headSilent a.val x.settings.silenceLimit := by
        simp only [checkSilence, isSilent, isPassed, Bool.not_true, Bool.false_eq_true, if_false]
        exact (if_neg notCounting).trans (if_pos ⟨acquire, clear⟩)
      rw [next, check, raise_eq_raised, BitVec.ofInt_natCast]
      rfl
    · have check : checkSilence a time popped = popped := by
        unfold checkSilence
        dsimp only
        rw [isSilent]
        cases isPassed : passed with
        | false => rfl
        | true =>
          have others : x.ctx.state = .off ∨ x.ctx.state = .lost ∨ (x.ctx.state = .acquire ∧ x.ctx.silenceMark = true) :=
            keeps.resolve_left (by simp [isPassed])
          have notCounting : ¬x.ctx.counting = true := by
            rw [AxisContext.counting_iff]
            rintro ⟨off, acquire, lost⟩
            exact others.elim off (·.elim lost fun both => acquire both.1)
          have noMark : ¬(x.ctx.state = .acquire ∧ x.ctx.silenceMark = false) := by
            rintro ⟨acquire, clear⟩
            rcases others with off | lost | ⟨-, mark⟩
            · exact absurd (acquire.symm.trans off) (by decide)
            · exact absurd (acquire.symm.trans lost) (by decide)
            · exact absurd (mark.symm.trans clear) (by decide)
          exact (if_neg notCounting).trans (if_neg noMark)
      rw [next, check]
  · have next : exec (.axisChainLoss a) s = .next (if x.ctx.counting then loseAxis a 1 popped else popped) := by
      refine congrArg Host.Outcome.next ?_
      rw [events]
      dsimp only
      rw [popLinkEvent_eq events]
    refine ⟨fun counting => ?_, fun other => ?_⟩
    · rw [next, if_pos counting, loseAxis_eq]
      rfl
    · rw [next, if_neg (by simp [other])]

/-! ### Samples that are not counted -/

section
variable {s : State} {a : AxisId} {m : SampleMsg} {rest : List SampleMsg}

/-- R58: the oldest sample delivered to an engine is taken. -/
theorem exec_sampleArrival_eq (arrives : Arrives s a m rest) : exec (.sampleArrival a) s = .next (takeArrival a m
    { s with bus := { s.bus with samples := s.bus.samples.set a.val rest a.isLt } }) := by
  have dropped : (s.bus.samples[a]).drop 1 = rest := by rw [arrives]; rfl
  refine congrArg Host.Outcome.next ?_
  rw [arrives]
  dsimp only
  rw [← dropped]
  rfl

theorem staleSample_iff {c : AxisContext} {t : Time} :
    staleSample c t = true ↔ c.seenMark = true ∧ later t c.tSeen = false := by
  simp [staleSample]

/-- R58: a sample that is not stale, for a started axis, is seen. -/
theorem takeArrival_seen (started : (s.axes[a]).ctx.state ≠ .off)
    (fresh : (s.axes[a]).ctx.seenMark = false ∨ later m.time (s.axes[a]).ctx.tSeen = true) :
    takeArrival a m s = takeSeen a m s := by
  have notStale : ¬staleSample (s.axes[a]).ctx m.time = true := by
    rw [staleSample_iff]
    rintro ⟨marked, notLater⟩
    rcases fresh with unmarked | isLater
    · exact absurd (marked.symm.trans unmarked) (by decide)
    · exact absurd (isLater.symm.trans notLater) (by decide)
  exact (if_neg started).trans (if_neg notStale)

/-- R42 to R45, R59, R60: the state once a weak sample is seen. -/
theorem sampleSeen_weak (weak : seenWeak s.axes[a] m = true) :
    let x := s.axes[a]
    let c := x.ctx
    let uv := stage1 x.settings m.c m.s
    let bucket := min 255 (c.bucket + 1)
    let decays := x.settings.decayInterval ≤ c.decay + 1
    sampleSeen a m s = { s with
      axes := s.axes.set a.val { x with ctx := { c with
        tSeen := m.time, seenMark := true, silenceRef := m.time, silenceMark := false
        signal := (uv.1 * uv.1 + uv.2 * uv.2).toNat, weak := true
        decay := if decays then 0 else c.decay + 1, bucket := if decays then bucket - 1 else bucket } } a.isLt
      bus := { s.bus with raises := s.bus.raises ++ (if c.bucket + 1 = x.settings.bucketThreshold then
        [⟨.axe a, .signalDegraded, a.val, BitVec.ofNat 32 x.settings.bucketThreshold, 0⟩] else []) } } := by
  intro x c uv bucket decays
  have context : seenContext x.settings c m uv true = { c with
      tSeen := m.time, seenMark := true, silenceRef := m.time, silenceMark := false
      signal := (uv.1 * uv.1 + uv.2 * uv.2).toNat, weak := true
      decay := if decays then 0 else c.decay + 1, bucket := if decays then bucket - 1 else bucket } := by
    rw [seenContext_eq]
    simp only [← Nat.not_le, ite_not]
    rfl
  have raises : degradedRaises a x true = if c.bucket + 1 = x.settings.bucketThreshold then
      [⟨.axe a, .signalDegraded, a.val, BitVec.ofNat 32 x.settings.bucketThreshold, 0⟩] else [] := by
    simp only [degradedRaises, reachesThreshold, Bool.true_and, beq_iff_eq, BitVec.ofInt_natCast, c]
  rw [sampleSeen, weak, raises, ← context]
  rfl

end

/-- Settles O48: the cases of R58 and the weak sample's bucket. -/
theorem unseenSamplesChangeNoAxis : Obligations.UnseenSamplesChangeNoAxis := by
  unfold Obligations.UnseenSamplesChangeNoAxis
  refine fun s a => ⟨fun m rest arrives => ?_, fun m rest arrives => ?_, fun started last => ?_⟩
  · intro after
    refine ⟨fun off => ?_, fun started marked notLater => ?_⟩
    · rw [exec_sampleArrival_eq arrives]
      exact congrArg Host.Outcome.next (if_pos off)
    · rw [exec_sampleArrival_eq arrives]
      exact congrArg Host.Outcome.next
        ((if_neg started).trans (if_pos (staleSample_iff.2 ⟨marked, notLater⟩)))
  · intro x c uv bucket decays started fresh weak
    let u : State := { s with bus := { s.bus with samples := s.bus.samples.set a.val rest a.isLt } }
    have isWeak : seenWeak u.axes[a] m = true := weak
    rw [exec_sampleArrival_eq arrives, takeArrival_seen (s := u) started fresh, takeSeen_eq, if_pos isWeak,
      sampleSeen_weak isWeak]
    rfl
  · have decays : (s.axes[a]).ctx.state ≠ .off ∧ (s.axes[a]).settings.decayInterval ≤ (s.axes[a]).ctx.decay + 1 :=
      ⟨started, last.le⟩
    refine congrArg Host.Outcome.next ?_
    simp only [State.modAxis, modifyAt]
    rw [if_pos decays]
    rfl

end Sys2Proof.Machine
end

section
/-! SUPPORT. RQU taking a record (R160 to R166, R171), the gating tests (R152 to R156), and STOP CAPTURE (R135). -/

namespace Sys2Proof.Machine

/-! ### RQU -/

section
variable {s : State} {r : Record}

theorem ageDueNow_iff : ageDueNow s = true ↔ ∃ q rest, s.rqu.queue = q :: rest ∧ s.rqu.delivery.interval ≠ 0
    ∧ later s.cpt.observed (after q.body.time s.rqu.delivery.interval) = true := by
  unfold ageDueNow
  cases s.rqu.queue with
  | nil => simp
  | cons q rest => simp

/-- R15: what the fairness count becomes as it is settled. -/
theorem settleFairness_fairness (u : State) : u.settleFairness = { u with cpt := { u.cpt with
    fairness := u.settleFairness.cpt.fairness } }
    ∧ u.settleFairness.cpt.fairness = if insertWaiting u.settleFairness then u.cpt.fairness else 0 := by
  rw [settleFairness_eq]
  by_cases waiting : insertWaiting u = true
  · rw [if_pos waiting, if_pos waiting]
    exact ⟨rfl, rfl⟩
  · have still : ¬insertWaiting (setFairness 0 u) = true := waiting
    rw [if_neg waiting, if_neg still]
    exact ⟨rfl, rfl⟩

/-- R160: the oldest record handed over is taken. -/
theorem exec_recordQueued {rest : List Record} (records : s.bus.records = r :: rest) : exec .recordQueued s =
    .next (takeRecord r (s.modBus fun b => { b with records := rest })).settleFairness := by
  refine congrArg Host.Outcome.next ?_
  rw [records]

/-- R161, R171: a record that finds room. -/
theorem takeRecord_room (room : s.rqu.queue.length < 128) : takeRecord r s = queueWithRoom r s :=
  if_pos room

/-- What taking a record can change. -/
theorem takeRecord_state (r : Record) (s : State) :
    takeRecord r s = { s with rqu := (takeRecord r s).rqu, bus := (takeRecord r s).bus } := by
  unfold takeRecord queueWithRoom
  dsimp only
  (repeat' split) <;> rfl

/-- R162: DROP_NEWEST. -/
theorem takeRecord_newest (full : 128 ≤ s.rqu.queue.length) (newest : s.rqu.delivery.dropOldest = false) :
    takeRecord r s = raiseOverflow r.source 0 (s.modRqu countDrop) := by
  refine (if_neg (Nat.not_lt.2 full)).trans ?_
  rw [newest]

/-- R162: DROP_OLDEST. -/
theorem takeRecord_oldest {oldest : QueuedRecord} {others : List QueuedRecord} (full : 128 ≤ s.rqu.queue.length)
    (drops : s.rqu.delivery.dropOldest = true) (queue : s.rqu.queue = oldest :: others) :
    takeRecord r s = replaceOldest oldest r s := by
  refine (if_neg (Nat.not_lt.2 full)).trans ?_
  rw [drops, queue]

/-- R161, R166, R171: the state after a record joined the queue with room. -/
theorem queueWithRoom_eq {v : State} (joined : (if s.rqu.queue = [] then
      ((s.modRqu (enqueue r)).report .rqu .recordsQueued).refreshAge
    else (s.modRqu (enqueue r)).report .rqu .recordsQueued) = v) :
    queueWithRoom r s = { v with bus := { v.bus with sources := v.bus.sources
      ++ if s.rqu.queue.length + 1 = s.rqu.delivery.watermark then [⟨.rqu, .queueWatermark⟩] else [] } } := by
  have whole : queueWithRoom r s = if s.rqu.queue.length + 1 = s.rqu.delivery.watermark then
      v.raiseSource .rqu .queueWatermark else v := by
    rw [← joined]
    unfold queueWithRoom
    simp only [List.isEmpty_iff, beq_iff_eq]
  rw [whole]
  split
  · rfl
  · rw [List.append_nil]

end

/-- Settles O59: a record by the room it finds and the policy, an advance by the age. -/
theorem recordsAreQueuedOrDropped : Obligations.RecordsAreQueuedOrDropped := by
  unfold Obligations.RecordsAreQueuedOrDropped
  refine ⟨fun s r rest records => ?_, fun s waits => ?_, fun s => ageDueNow_iff⟩
  · intro next drops overflow
    let p := s.modBus fun b => { b with records := rest }
    obtain ⟨settled, fairness⟩ := settleFairness_fairness (takeRecord r p)
    have cpt : (takeRecord r p).cpt = p.cpt := (congrArg State.cpt (takeRecord_state r p) :)
    have rqu : (takeRecord r p).settleFairness.rqu = (takeRecord r p).rqu := by rw [settled]
    have bus : (takeRecord r p).settleFairness.bus = (takeRecord r p).bus := by rw [settled]
    have age : ageDueNow (takeRecord r p).settleFairness = ageDueNow (takeRecord r p) := by rw [settled]; rfl
    refine ⟨(takeRecord r p).settleFairness, exec_recordQueued records, fun room => ?_, fun full newest => ?_,
      fun oldest others full drops queue => ?_, ?_, ?_⟩
    · rw [rqu, bus, age, takeRecord_room (s := p) room]
      by_cases empty : s.rqu.queue = []
      · rw [queueWithRoom_eq (s := p) (if_pos empty)]
        exact ⟨rfl, fun _ => rfl, fun filled => absurd empty filled, rfl⟩
      · rw [queueWithRoom_eq (s := p) (if_neg empty)]
        exact ⟨rfl, fun isEmpty => absurd isEmpty empty, fun _ => rfl, rfl⟩
    · rw [rqu, bus, takeRecord_newest (s := p) full newest, raiseOverflow, raise_eq_raised, BitVec.ofInt_natCast]
      exact ⟨rfl, rfl⟩
    · rw [rqu, bus, age, takeRecord_oldest (s := p) full drops queue, replaceOldest, raiseOverflow, raise_eq_raised,
        BitVec.ofInt_natCast]
      have others_eq : s.rqu.queue.drop 1 = others := by rw [queue]; rfl
      rw [← others_eq]
      refine ⟨rfl, rfl, ?_⟩
      rw [show ∀ (l : List ReportMsg) (x y : ReportMsg), l ++ [x, y] = l ++ [x] ++ [y] by simp]
      rfl
    · rw [rqu, bus]
      refine settled.trans ?_
      have state := takeRecord_state r p
      rw [state]
      rfl
    · rw [fairness, cpt]
      rfl
  · let u := (s.modBus fun b => { b with rquAdvances := b.rquAdvances - 1 }).refreshAge
    obtain ⟨settled, fairness⟩ := settleFairness_fairness u
    exact ⟨u.settleFairness, congrArg Host.Outcome.next (if_neg waits.ne'), settled, fairness⟩

/-! ### Gating -/

section
variable {v : Int}

/-- R152: no valid window holds v. -/
theorem findWindow_none {ws : List WindowEntry} {lower : Int} {n : Nat}
    (none : ∀ i (h : i < ws.length), i < n → ¬(limitBefore lower ws i ≤ v ∧ v < ws[i].limit)) :
    findWindow v lower (ws.take n) = Option.none := by
  induction ws generalizing lower n with
  | nil => rw [List.take_nil]; rfl
  | cons w ws ih =>
    cases n with
    | zero => rfl
    | succ n =>
      have notHere : ¬(lower ≤ v ∧ v < w.limit) := none 0 (Nat.zero_lt_succ _) (Nat.zero_lt_succ _)
      rw [List.take_succ_cons, findWindow, if_neg notHere]
      refine ih fun i h less holds => none (i + 1) (Nat.succ_lt_succ h) (Nat.succ_lt_succ less) ?_
      rw [limitBefore_cons_succ]
      exact holds

/-- R152: the first valid window that holds v. -/
theorem findWindow_first {ws : List WindowEntry} {lower : Int} {n i : Nat} (h : i < ws.length) (valid : i < n)
    (holds : limitBefore lower ws i ≤ v ∧ v < ws[i].limit)
    (before : ∀ j (h : j < ws.length), j < i → ¬(limitBefore lower ws j ≤ v ∧ v < ws[j].limit)) :
    findWindow v lower (ws.take n) = some ws[i] := by
  induction ws generalizing lower n i with
  | nil => exact absurd h (Nat.not_lt_zero _)
  | cons w ws ih =>
    obtain ⟨n, rfl⟩ := Nat.exists_eq_succ_of_ne_zero (Nat.ne_of_gt (Nat.zero_lt_of_lt valid))
    rw [List.take_succ_cons, findWindow]
    cases i with
    | zero => exact if_pos holds
    | succ i =>
      have notHere : ¬(lower ≤ v ∧ v < w.limit) := before 0 (Nat.zero_lt_succ _) (Nat.zero_lt_succ _)
      rw [if_neg notHere]
      rw [limitBefore_cons_succ] at holds
      refine ih (Nat.lt_of_succ_lt_succ h) (Nat.lt_of_succ_lt_succ valid) holds fun j hj less both =>
        before (j + 1) (Nat.succ_lt_succ hj) (Nat.succ_lt_succ less) ?_
      rw [limitBefore_cons_succ]
      exact both

theorem maskedBy_iff {w : WindowEntry} {source : Fin 8} {p : Polarity} : maskedBy w source p = true ↔
    w.sources.getLsbD source.val = false ∨ (w.polarity = .rise ∧ p = .fall) ∨ (w.polarity = .fall ∧ p = .rise) := by
  simp [maskedBy, or_assoc]

theorem isDouble_iff {w : WindowEntry} {last : Option Int} :
    isDouble w last v = true ↔ w.spacing ≠ 0 ∧ ∃ l ∈ last, |v - l| < w.spacing := by
  cases last <;> simp [isDouble]

end

/-- R154: what the first test that holds makes of the record. -/
theorem gateRecord_of_window {s : State} {source : Fin 8} {v : Int} {r : Record} {w : WindowEntry}
    (window : windowOf s.cap v = some w) : gateRecord source v r s =
      if w.gap then s.report .cap .gapWindow
      else if maskedBy w source r.polarity then s.report .cap .masked
      else if isDouble w s.cap.lastEdge[source] v then s.report .cap .doubleEdges
      else handRecord { r with zone := w.zone }
        (s.modCap fun c => { c with lastEdge := modifyAt c.lastEdge source fun _ => some v }) := by
  unfold gateRecord gate
  rw [window]
  dsimp only
  by_cases gap : w.gap = true
  · simp [gap]
  · by_cases masked : maskedBy w source r.polarity = true
    · simp [gap, masked]
    · by_cases double : isDouble w s.cap.lastEdge[source] v = true <;> simp_all

/-- Settles O56: the window, then the tests in their order. -/
theorem gatingDecidesByTheFirstTest : Obligations.GatingDecidesByTheFirstTest := by
  unfold Obligations.GatingDecidesByTheFirstTest
  intro s source v r i lower holds w reported wrong double
  have entry (j : Fin 32) : (s.cap.windows.toList[j.val]'(by simp)) = s.cap.windows[j] := by simp
  refine ⟨fun none => ?_, fun here before => ?_⟩
  · have outside : windowOf s.cap v = Option.none := by
      refine findWindow_none fun j h less both => none ⟨j, by simpa using h⟩ ⟨less, both.1, ?_⟩
      rw [← entry]
      exact both.2
    unfold gateRecord gate
    rw [outside]
    rfl
  · obtain ⟨valid, above, below⟩ := here
    have window : windowOf s.cap v = some w := by
      have found := findWindow_first (v := v) (ws := s.cap.windows.toList) (lower := s.cap.header.base)
        (n := s.cap.header.valid) (i := i.val) (by simp) valid ⟨above, by rw [entry]; exact below⟩
        fun j h less both => before ⟨j, by simpa using h⟩ less
          ⟨less.trans valid, both.1, by rw [← entry]; exact both.2⟩
      rwa [entry] at found
    have gated := gateRecord_of_window (r := r) (source := source) window
    have isWrong : maskedBy w source r.polarity = true ↔ wrong := maskedBy_iff
    have isDoubled : isDouble w s.cap.lastEdge[source] v = true ↔ double := isDouble_iff
    refine ⟨fun gap => ?_, fun clear masked => ?_, fun clear fits twice => ?_, fun clear fits once => ?_⟩
    · exact gated.trans (if_pos gap)
    · have notGap : ¬w.gap = true := by simp [clear]
      exact gated.trans ((if_neg notGap).trans (if_pos (isWrong.2 masked)))
    · have notGap : ¬w.gap = true := by simp [clear]
      exact gated.trans ((if_neg notGap).trans ((if_neg (mt isWrong.1 fits)).trans (if_pos (isDoubled.2 twice))))
    · have notGap : ¬w.gap = true := by simp [clear]
      exact gated.trans ((if_neg notGap).trans ((if_neg (mt isWrong.1 fits)).trans (if_neg (mt isDoubled.1 once))))

/-! ### STOP CAPTURE -/

/-- R135: the zero state of the axis of an engine with no message before it, once its removed entries are known. -/
def zeroAfterRemovals (a : AxisId) (l : List Entry) (z : ZeroState) : ZeroState :=
  match z with
  | .resolving e => if ∃ x ∈ l, x.id = e ∧ x.zeroMark = some a then .waiting else .resolving e
  | z => z

/-- R135: the removals that join the line of an engine. -/
def removalsOf (a : AxisId) (l : List Entry) : List ZeroMsg :=
  (l.filter fun e => e.zeroMark = some a).map fun e => .removed e.id

/-- R104: a removal makes a zero that resolves for the entry wait again, and nothing else. -/
theorem noticeEffect_removed (arming entry : Nat) (z : ZeroState) : noticeEffect arming (.removed entry) z =
    match z with
    | .resolving e => if e = entry then .waiting else .resolving e
    | z => z := by
  cases z <;> rfl

theorem zeroAfterRemovals_cons (a : AxisId) (e : Entry) (l : List Entry) (z : ZeroState) (arming : Nat) :
    zeroAfterRemovals a (e :: l) z = zeroAfterRemovals a l
      (if e.zeroMark = some a then noticeEffect arming (.removed e.id) z else z) := by
  rw [noticeEffect_removed]
  cases z with
  | none => split <;> rfl
  | waiting => split <;> rfl
  | resolving entry =>
    by_cases mine : e.zeroMark = some a
    · by_cases same : entry = e.id
      · simp [zeroAfterRemovals, mine, same]
      · simp [zeroAfterRemovals, mine, same, Ne.symm same]
    · simp [zeroAfterRemovals, mine]

section
variable {s : State} {a : AxisId}

/-- R135: the reports of a removal, and the line of every engine. -/
theorem removeEntry_reports (s : State) (e : Entry) :
    (removeEntry s e).bus.reports = s.bus.reports ++ [⟨.cap, .discardedByStop, 0⟩] := by
  unfold removeEntry noticeRemoved
  dsimp only
  split
  · split <;> rfl
  · rfl

/-- An engine whose line is empty takes the removal at once. -/
theorem removeEntry_idle (empty : s.bus.zeroMsgs[a] = []) (e : Entry) :
    (removeEntry s e).axes[a] = { s.axes[a] with ctx := { (s.axes[a]).ctx with
        zero := if e.zeroMark = some a then noticeEffect (s.axes[a]).arming (.removed e.id) (s.axes[a]).ctx.zero
          else (s.axes[a]).ctx.zero } }
      ∧ (removeEntry s e).bus.zeroMsgs[a] = [] := by
  unfold removeEntry noticeRemoved
  dsimp only
  cases mark : e.zeroMark with
  | none => exact ⟨by simp, empty⟩
  | some b =>
    by_cases mine : b = a
    · subst mine
      have idle : ((s.report .cap .discardedByStop).bus.zeroMsgs[b]).isEmpty = true := by
        rw [List.isEmpty_iff]
        exact empty
      dsimp only
      rw [if_pos idle, if_pos rfl]
      exact ⟨modifyAt_same s.axes b _, empty⟩
    · have other : ¬some b = some a := fun same => mine (Option.some.inj same)
      rw [if_neg other]
      dsimp only
      split
      · exact ⟨modifyAt_other s.axes b a _ mine, empty⟩
      · exact ⟨rfl, (modifyAt_other s.bus.zeroMsgs b a _ mine).trans empty⟩

/-- Before an engine with messages the removal joins the line. -/
theorem removeEntry_busy (busy : s.bus.zeroMsgs[a] ≠ []) (e : Entry) : (removeEntry s e).axes[a] = s.axes[a]
      ∧ (removeEntry s e).bus.zeroMsgs[a] = s.bus.zeroMsgs[a] ++ removalsOf a [e] := by
  unfold removeEntry noticeRemoved
  dsimp only
  cases mark : e.zeroMark with
  | none => exact ⟨rfl, by simp [removalsOf, mark]⟩
  | some b =>
    by_cases mine : b = a
    · subst mine
      have waits : ¬((s.report .cap .discardedByStop).bus.zeroMsgs[b]).isEmpty = true := by
        rw [List.isEmpty_iff]
        exact busy
      have told : removalsOf b [e] = [.removed e.id] := by simp [removalsOf, mark]
      dsimp only
      rw [if_neg waits, told]
      exact ⟨rfl, modifyAt_same s.bus.zeroMsgs b _⟩
    · have told : removalsOf a [e] = [] := by simp [removalsOf, mark, mine]
      rw [told, List.append_nil]
      dsimp only
      split
      · exact ⟨modifyAt_other s.axes b a _ mine, rfl⟩
      · exact ⟨rfl, modifyAt_other s.bus.zeroMsgs b a _ mine⟩

theorem foldl_removeEntry_reports (l : List Entry) (s : State) : (l.foldl removeEntry s).bus.reports =
    s.bus.reports ++ l.map fun _ => ⟨.cap, .discardedByStop, 0⟩ := by
  induction l generalizing s with
  | nil => simp
  | cons e l ih => rw [List.foldl_cons, ih, removeEntry_reports, List.append_assoc]; rfl

theorem foldl_removeEntry_idle (l : List Entry) (empty : s.bus.zeroMsgs[a] = []) :
    (l.foldl removeEntry s).axes[a] = { s.axes[a] with ctx := { (s.axes[a]).ctx with
        zero := zeroAfterRemovals a l (s.axes[a]).ctx.zero } }
      ∧ (l.foldl removeEntry s).bus.zeroMsgs[a] = [] := by
  induction l generalizing s with
  | nil =>
    refine ⟨?_, empty⟩
    have same : zeroAfterRemovals a [] (s.axes[a]).ctx.zero = (s.axes[a]).ctx.zero := by
      cases (s.axes[a]).ctx.zero <;> simp [zeroAfterRemovals]
    rw [same]
    rfl
  | cons e l ih =>
    obtain ⟨axis, line⟩ := removeEntry_idle empty e
    obtain ⟨later, none⟩ := ih line
    refine ⟨?_, none⟩
    rw [List.foldl_cons, later, axis, zeroAfterRemovals_cons a e l _ (s.axes[a]).arming]

theorem foldl_removeEntry_busy (l : List Entry) (busy : s.bus.zeroMsgs[a] ≠ []) :
    (l.foldl removeEntry s).axes[a] = s.axes[a]
      ∧ (l.foldl removeEntry s).bus.zeroMsgs[a] = s.bus.zeroMsgs[a] ++ removalsOf a l := by
  induction l generalizing s with
  | nil => exact ⟨rfl, (List.append_nil _).symm⟩
  | cons e l ih =>
    obtain ⟨axis, line⟩ := removeEntry_busy busy e
    have stillBusy : (removeEntry s e).bus.zeroMsgs[a] ≠ [] := by
      rw [line]
      exact List.append_ne_nil_of_left_ne_nil busy _
    obtain ⟨later, joined⟩ := ih stillBusy
    refine ⟨later.trans axis, joined.trans ?_⟩
    have whole : removalsOf a (e :: l) = removalsOf a [e] ++ removalsOf a l := by
      simp only [removalsOf, ← List.map_append, ← List.filter_append, List.singleton_append]
    rw [line, whole, List.append_assoc]

end

/-- Settles O44: engine by engine, by whether its line is empty. -/
theorem stopCaptureEmptiesThePendingList : Obligations.StopCaptureEmptiesThePendingList := by
  unfold Obligations.StopCaptureEmptiesThePendingList
  intro s r executing
  let p := s.modCap fun c => { c with entries := [], state := .stopped }
  let u := s.cap.entries.foldl removeEntry p
  have state : u = { s with
      axes := u.axes, cap := { s.cap with entries := [], state := .stopped }
      bus := { s.bus with zeroMsgs := u.bus.zeroMsgs, reports := u.bus.reports } } := stopCapture_state r s
  have answer : stopCapture r s = plain u .done := rfl
  have mga : u.mga = s.mga := by rw [state]
  have cap : u.cap = { s.cap with state := .stopped, entries := [] } := by rw [state]
  refine ⟨doneWith u r, serve_executing_accepted executing answer rfl, cap, congrArg (answered · r .done []) mga,
    foldl_removeEntry_reports s.cap.entries p, fun a empty => ?_, fun a busy => ?_, fun a => ?_, ?_⟩
  · obtain ⟨axis, line⟩ := foldl_removeEntry_idle (s := p) s.cap.entries empty
    refine ⟨?_, line⟩
    have zero : (u.axes[a]).ctx.zero = zeroAfterRemovals a s.cap.entries (s.axes[a]).ctx.zero :=
      congrArg (·.ctx.zero) axis
    refine zero.trans ?_
    cases (s.axes[a]).ctx.zero <;> rfl
  · obtain ⟨axis, line⟩ := foldl_removeEntry_busy (s := p) s.cap.entries busy
    exact ⟨congrArg (·.ctx.zero) axis, line⟩
  · change u.axes[a] = { s.axes[a] with ctx := { (s.axes[a]).ctx with zero := (u.axes[a]).ctx.zero } }
    by_cases empty : s.bus.zeroMsgs[a] = []
    · obtain ⟨axis, -⟩ := foldl_removeEntry_idle (s := p) s.cap.entries empty
      rw [axis]
      rfl
    · obtain ⟨axis, -⟩ := foldl_removeEntry_busy (s := p) s.cap.entries empty
      rw [axis]
      rfl
  · have whole : u = { s with
        axes := u.axes, cap := u.cap
        bus := { s.bus with zeroMsgs := u.bus.zeroMsgs, reports := u.bus.reports } } := by
      rw [cap]
      exact state
    have placed : doneWith u r = { u with mga := answered s.mga r .done [] } := by rw [doneWith, mga]
    refine placed.trans ?_
    change _ = { s with
      cap := u.cap, mga := answered u.mga r .done [], axes := u.axes
      bus := { s.bus with reports := u.bus.reports, zeroMsgs := u.bus.zeroMsgs } }
    rw [mga]
    exact congrArg (fun v : State => { v with mga := answered s.mga r .done [] }) whole

end Sys2Proof.Machine
end

section
/-! SUPPORT. The zero state of an axis: notices (R104, R135) and outcomes (R106 to R109). -/

namespace Sys2Proof.Machine

section
variable {s : State} {a : AxisId} {rest : List ZeroMsg}

/-- The zero state of an axis replaced. -/
def withZero (s : State) (a : AxisId) (z : ZeroState) : Vector Axis 6 :=
  s.axes.set a.val { s.axes[a] with ctx := { (s.axes[a]).ctx with zero := z } } a.isLt

theorem withZero_self (s : State) (a : AxisId) : withZero s a (s.axes[a]).ctx.zero = s.axes :=
  Vector.set_getElem_self ..

/-- The oldest message of an engine's line taken. -/
theorem popZeroMsg_eq {m : ZeroMsg} (msgs : s.bus.zeroMsgs[a] = m :: rest) :
    popZeroMsg a s = { s with bus := { s.bus with zeroMsgs := s.bus.zeroMsgs.set a.val rest a.isLt } } := by
  have dropped : (s.bus.zeroMsgs[a]).drop 1 = rest := by rw [msgs]; rfl
  rw [← dropped]
  rfl

theorem takeNotice_eq (m : ZeroMsg) :
    takeNotice a m s = { s with axes := withZero s a (noticeEffect (s.axes[a]).arming m (s.axes[a]).ctx.zero) } := rfl

theorem noticeEffect_placed (arming entry found : Nat) (z : ZeroState) : noticeEffect arming (.placed entry found) z =
    if z = .waiting ∧ found = arming then .resolving entry else z := by
  cases z with
  | waiting => by_cases same : found = arming <;> simp [noticeEffect, same]
  | _ => simp [noticeEffect]

theorem noticeEffect_removed_eq (arming entry : Nat) (z : ZeroState) : noticeEffect arming (.removed entry) z =
    if z = .resolving entry then .waiting else z := by
  rw [noticeEffect_removed]
  cases z <;> simp

/-- R108: a zero keeps the times and the slip flags of the ring. -/
theorem map_flagReferenced {α : Type} (f : HistEntry → α) (ignores : ∀ h, f { h with referenced := true } = f h)
    (ring : List HistEntry) : (flagReferenced ring).map f = ring.map f := by
  have run (l : List HistEntry) : (flagRun l).map f = l.map f := by
    induction l with
    | nil => rfl
    | cons h l ih =>
      rw [flagRun, List.map_cons, List.map_cons, ignores]
      split
      · rfl
      · rw [ih]
  rw [flagReferenced, List.map_reverse, run, ← List.map_reverse, List.reverse_reverse]

theorem shiftLimited_iff {pRef : Int} {c : AxisContext} : shiftLimited pRef c = false ↔
    within48 (c.count - pRef) = true ∧ ∀ h ∈ c.ring, within48 (h.count - pRef) = true := by
  simp [shiftLimited]

/-- R107: the state after a zero is applied. -/
theorem applyZeroTo_eq (pRef : Int) (tRef : Time) : applyZeroTo a pRef tRef s = { s with
    axes := s.axes.set a.val { s.axes[a] with
      ctx := applyZero (s.axes[a]).ctx pRef tRef (s.axes[a]).settings.refPosition
        (appliedOf s (s.axes[a]).settings.group) s.cpt.observed } a.isLt
    bus := { s.bus with
      raises := s.bus.raises
        ++ (if shiftLimited pRef (s.axes[a]).ctx then [⟨.axe a, .positionSaturated, a.val, 5, 0⟩] else [])
      sources := s.bus.sources ++ [⟨.axe a, .operationEnded⟩] } } := by
  unfold applyZeroTo
  dsimp only
  rw [raise_if]
  rfl

/-- R106, R107: an outcome of the entry the zero resolves for. -/
theorem exec_zeroOutcome {entry : Nat} {result : ZeroResult} (msgs : s.bus.zeroMsgs[a] = .outcome entry result :: rest) :
    exec (.zeroOutcome a) s = .next (if (s.axes[a]).ctx.zero = .resolving entry then
      takeResult a result { s with bus := { s.bus with zeroMsgs := s.bus.zeroMsgs.set a.val rest a.isLt } }
    else { s with bus := { s.bus with zeroMsgs := s.bus.zeroMsgs.set a.val rest a.isLt } }) := by
  refine congrArg Host.Outcome.next ?_
  rw [msgs]
  dsimp only
  rw [popZeroMsg_eq msgs]
  rfl

end

/-- Settles O51: notices by their effect, outcomes by the cases of R106 and R107. -/
theorem zeroOutcomesTieTheCount : Obligations.ZeroOutcomesTieTheCount := by
  unfold Obligations.ZeroOutcomesTieTheCount
  intro s a rest x taken zeroIs
  let p : State := { s with bus := taken }
  refine ⟨fun entry found msgs => congrArg Host.Outcome.next ?_, fun entry msgs => congrArg Host.Outcome.next ?_,
    fun entry result msgs => ⟨fun other => ?_, fun resolving => ?_⟩⟩
  · rw [msgs]
    dsimp only
    rw [popZeroMsg_eq msgs, takeNotice_eq, noticeEffect_placed]
    by_cases mine : x.ctx.zero = .waiting ∧ found = x.arming
    · rw [if_pos mine, if_pos mine]
      rfl
    · rw [if_neg mine, if_neg mine]
      exact congrArg (fun v => { p with axes := v }) (withZero_self p a)
  · rw [msgs]
    dsimp only
    rw [popZeroMsg_eq msgs, takeNotice_eq, noticeEffect_removed_eq]
    by_cases mine : x.ctx.zero = .resolving entry
    · rw [if_pos mine, if_pos mine]
      rfl
    · rw [if_neg mine, if_neg mine]
      exact congrArg (fun v => { p with axes := v }) (withZero_self p a)
  · exact (exec_zeroOutcome msgs).trans (congrArg Host.Outcome.next (if_neg other))
  · have next : exec (.zeroOutcome a) s = .next (takeResult a result p) :=
      (exec_zeroOutcome msgs).trans (congrArg Host.Outcome.next (if_pos resolving))
    refine ⟨fun absent => ?_, fun pRef tRef isResult => ?_, fun pRef tRef isResult lost => ?_,
      fun pRef tRef isResult counting => ?_⟩
    · rw [next]
      rcases absent with rfl | rfl | rfl <;> rfl
    · rw [next, isResult]
      rfl
    · have notCounting : ¬x.ctx.counting = true := by simp [AxisContext.counting, lost]
      rw [next, isResult]
      exact congrArg Host.Outcome.next ((if_neg notCounting).trans (if_pos lost))
    · have applied : takeResult a result p = applyZeroTo a pRef tRef p := by
        rw [isResult]
        exact if_pos counting
      rw [applyZeroTo_eq] at applied
      let c := applyZero x.ctx pRef tRef x.settings.refPosition (appliedOf s x.settings.group) s.cpt.observed
      have limits (z : Int) : saturate z = max (-140737488355327) (min 140737488355327 z) := saturate_eq z
      have context : ((takeResult a result p).axes[a]).ctx = c := by
        rw [applied]
        exact congrArg Axis.ctx (modifyAt_same s.axes a fun _ => { x with ctx := c })
      have ring : c.ring = flagReferenced (x.ctx.ring.map fun h =>
          { h with count := max (-140737488355327) (min 140737488355327 (h.count - pRef)) }) := by
        simp only [← limits]
        rfl
      refine ⟨takeResult a result p, next, ?_, ?_, context ▸ ring, ?_, ?_⟩
      · rw [context, ← limits]
        rfl
      · rw [context, ring, map_flagReferenced _ (fun _ => rfl), List.map_map]
        rfl
      · have raises : (takeResult a result p).bus.raises = s.bus.raises
            ++ if shiftLimited pRef x.ctx then [⟨.axe a, .positionSaturated, a.val, 5, 0⟩] else [] := by
          rw [applied]
        rw [raises]
        refine congrArg (s.bus.raises ++ ·) ?_
        by_cases fits : shiftLimited pRef x.ctx = false
        · rw [if_pos (shiftLimited_iff.1 fits), if_neg (by simp [fits])]
        · rw [if_neg (mt shiftLimited_iff.2 fits), if_pos (by simpa using fits)]
      · rw [context, applied]
        rfl

end Sys2Proof.Machine
end

section
/-! SUPPORT. CAP's pending list: one event's work whose entries do not depend on one another, AXIS STOP (R74, R142) and
the capture timeouts (R141). -/

namespace Sys2Proof.Machine

/-! ### Work that looks at each entry alone -/

/-- R144: an entry d that an event leaves, with the raises of its composites: as a record or without one if it is
complete. -/
def finishEntry (u : State) (d : Entry) : State :=
  if d.settled.complete then completeEntry (u.raised d.saturations) d.settled else u.raised d.saturations

/-- When what an event makes of an entry depends on the entry alone, the list left is filtered entry by entry. -/
theorem swept_of_pure {work : State → Entry → State × Entry} {first : State → Entry → State}
    {changed : Entry → Entry}
    (works : ∀ s e, work s e = (first s e, changed e)) (s : State) : swept work s =
      let t := s.cap.entries.foldl (fun u e => finishEntry (first u e) (changed e)) s
      { t with cap := { t.cap with
        entries := (s.cap.entries.map fun e => (changed e).settled).filter fun e => !e.complete } } := by
  have fold (l : List Entry) (u : State) (kept : List Entry) :
      l.foldl (fun (x : State × List Entry) e =>
        let v := (first x.1 e).raised (changed e).saturations
        if (changed e).settled.complete then (completeEntry v (changed e).settled, x.2)
        else (v, x.2 ++ [(changed e).settled])) (u, kept)
      = (l.foldl (fun u e => finishEntry (first u e) (changed e)) u,
          kept ++ (l.map fun e => (changed e).settled).filter fun e => !e.complete) := by
    induction l generalizing u kept with
    | nil => simp
    | cons e l ih =>
      simp only [List.foldl_cons, List.map_cons] at ih ⊢
      by_cases complete : (changed e).settled.complete = true
      · rw [if_pos complete, ih, List.filter_cons_of_neg (by simp [complete]), finishEntry, if_pos complete]
      · rw [if_neg complete, ih, List.filter_cons_of_pos (by simp [complete]), finishEntry, if_neg complete,
          List.append_assoc]
        rfl
  simp only [swept, works, fold, List.nil_append]

theorem finishEntry_completing (u : State) (d : Entry) : Completing u (finishEntry u d) := by
  unfold finishEntry
  split
  · exact (completing_raised u d.saturations).trans (completeEntry_completing _ _)
  · exact completing_raised u d.saturations

theorem completing_foldl {α : Type} {op : State → α → State} (each : ∀ s x, Completing s (op s x)) (l : List α)
    (s : State) : Completing s (l.foldl op s) := by
  induction l generalizing s with
  | nil => exact .refl s
  | cons x l ih => exact (each s x).trans (ih _)

/-! ### AXIS STOP -/

section
variable {s : State} {r : Request} {a : AxisId}

/-- R142: the entry with the waiting field of a stopped axis resolved OFF. -/
def stoppedEntry (a : AxisId) (e : Entry) : Entry :=
  if e.raw[a] = some .waiting then e.resolve a (.absent .off) else e

theorem stopRaw_eq (a : AxisId) (s : State) (e : Entry) : stopRaw a s e = (s, stoppedEntry a e) := by
  simp only [stopRaw, stoppedEntry, Entry.waitsFor, beq_iff_eq]
  split <;> rfl

theorem raw_stoppedEntry (a : AxisId) (e : Entry) : (stoppedEntry a e).raw[a] ≠ some .waiting := by
  unfold stoppedEntry
  split
  · simp [Entry.resolve]
  next other => exact other

end

/-- Settles O39: the axis's fields resolve entry by entry, in list order. -/
theorem axisStopResolvesItsFieldsOff : Obligations.AxisStopResolvesItsFieldsOff := by
  unfold Obligations.AxisStopResolvesItsFieldsOff
  intro s r a executing started off stopped finished t kept
  have isStopped : abortCalibration (s.modCtx a fun _ => {}) a = stopped := by
    have entry : (s.modCtx a fun _ => {}).axes[a] = { s.axes[a] with ctx := {} } := modifyAt_same s.axes a _
    have axes : (s.modCtx a fun _ => {}).axes.set a.val
        { s.axes[a] with ctx := {}, cal := abortCal (s.axes[a]).cal } a.isLt = stopped.axes :=
      Vector.set_set ({ s.axes[a] with ctx := {} } : Axis) a.isLt
    rw [abortCalibration_eq, entry, axes]
    rfl
  have isOff : stoppedEntry a = off := rfl
  have isFinished : (fun u e => finishEntry u (stoppedEntry a e)) = finished := rfl
  have answer : stopAxis a r s = plain { t with cap := { t.cap with entries := kept } } .done := by
    refine (if_neg started).trans ?_
    rw [isStopped, resolveStopped, sweepPending_eq_swept,
      swept_of_pure (first := fun u _ => u) (changed := stoppedEntry a) (stopRaw_eq a)]
    rfl
  have state : Completing stopped t :=
    completing_foldl (fun u e => finishEntry_completing u (stoppedEntry a e)) s.cap.entries stopped
  have mga : t.mga = s.mga := by rw [state]
  refine ⟨?_, fun e mem => ?_, state⟩
  · rw [← mga]
    exact serve_onAxis_accepted executing answer rfl
  · obtain ⟨d, -, rfl⟩ := List.mem_map.1 (List.mem_of_mem_filter mem)
    exact raw_stoppedEntry a d

end Sys2Proof.Machine
end

section
/-! SUPPORT. CAP at an advance: the capture timeouts (R141), and the compare slots and the halt (R131, R136). -/

namespace Sys2Proof.Machine

/-! ### Entries that an event leaves as they are -/

theorem composite_of_compositeFound {e : Entry} {c : Fin 4} {f : Field} (found : e.compositeFound c = some f) :
    e.composite[c] = some .waiting := by
  unfold Entry.compositeFound at found
  split at found
  next waits _ => exact waits
  next => cases found

/-- R143: an entry with no composite to resolve. -/
theorem settled_of_unfound {e : Entry} (unfound : ∀ c, e.compositeFound c = none) : e.settled = e := by
  have composite : e.settled.composite = e.composite := Vector.ext fun c hc => by
    simpa [unfound] using e.settled_composite ⟨c, hc⟩
  calc e.settled = { e with composite := e.settled.composite } := rfl
    _ = e := by rw [composite]

theorem saturations_of_unfound {e : Entry} (unfound : ∀ c, e.compositeFound c = none) : e.saturations = [] := by
  simp [Entry.saturations, unfound]

theorem compositeFound_of_unresolved {e : Entry} (h : e.unresolved) (c : Fin 4) : e.compositeFound c = none := by
  cases found : e.compositeFound c with
  | none => rfl
  | some f =>
    have waits := composite_of_compositeFound found
    obtain ⟨k, copied, ab, inputs, -, -, waiting⟩ := h.2 c waits
    rw [Option.mem_def] at copied inputs
    simp only [Entry.compositeFound, waits, copied, inputs] at found
    split at found
    next foundFirst foundSecond =>
      obtain first | second := waiting
      · exact nomatch (resolvedField_eq_none.2 (.inr first)).symm.trans foundFirst
      · exact nomatch (resolvedField_eq_none.2 (.inr second)).symm.trans foundSecond
    next => cases found

/-- R143: a listed entry has no composite to resolve. -/
theorem settled_of_unresolved {e : Entry} (h : e.unresolved) : e.settled = e :=
  settled_of_unfound (compositeFound_of_unresolved h)

theorem saturations_of_unresolved {e : Entry} (h : e.unresolved) : e.saturations = [] :=
  saturations_of_unfound (compositeFound_of_unresolved h)

theorem incomplete_of_unresolved {e : Entry} (h : e.unresolved) : e.complete = false := by
  obtain ⟨a, waits⟩ := h.1
  exact Bool.eq_false_iff.2 fun complete => (e.complete_iff.1 complete).1 a waits

theorem finishEntry_of_unresolved {e : Entry} (h : e.unresolved) (u : State) : finishEntry u e = u := by
  rw [finishEntry, settled_of_unresolved h, saturations_of_unresolved h, State.raised_nil,
    if_neg (by simp [incomplete_of_unresolved h])]

/-- R143: with every raw field resolved the composites resolve, and the entry is complete. -/
theorem complete_settled {e : Entry} (h : e.linked) (raws : ∀ a : AxisId, e.raw[a] ≠ some .waiting) :
    e.settled.complete = true := by
  by_contra incomplete
  obtain ⟨a, waits⟩ := (h.unresolved_settled (Bool.eq_false_iff.2 incomplete)).1
  exact raws a waits

/-! ### The timeout of one entry -/

theorem mem_allAxes (a : AxisId) : a ∈ allAxes := by
  revert a
  decide

theorem nodup_allAxes : allAxes.Nodup := by decide

/-- A fold whose operation acts on one element only is that one operation. -/
theorem foldl_of_acts_once {α β : Type} {f : α → β → α} {l : List β} (nodup : l.Nodup) {x : β} (mem : x ∈ l)
    (others : ∀ u, ∀ y ≠ x, f u y = u) (u : α) : l.foldl f u = f u x := by
  have still (k : List β) (away : x ∉ k) (v : α) : k.foldl f v = v := by
    rw [List.foldl_ext f (fun v _ => v) v fun v y hy => others v y fun same => away (same ▸ hy), List.foldl_fixed]
  induction l generalizing u with
  | nil => cases mem
  | cons y l ih =>
    obtain ⟨fresh, nodup⟩ := List.nodup_cons.1 nodup
    rw [List.foldl_cons]
    by_cases same : y = x
    · rw [same, still l (same ▸ fresh)]
    · rw [others u y same, ih nodup ((List.mem_cons.1 mem).resolve_left (Ne.symm same))]

/-- R141: the entry with its field of axis a, if it waits, resolved TIMEOUT. -/
def timedOutAt (e : Entry) (a : AxisId) : Entry :=
  if e.raw[a] = some .waiting then e.resolve a (.absent .timeout) else e

/-- R105, R141: the outcome that the timeout of axis a's field hands to the zero's engine. -/
def tellTimeout (e : Entry) (u : State) (a : AxisId) : State :=
  if e.raw[a] = some .waiting then handOutcome e a .timeout u else u

/-- R141: CAPTURE_TIMEOUT for each of these axes whose field waits. -/
def timeoutRaises (e : Entry) (l : List AxisId) : List RaiseMsg :=
  (l.filter fun a => e.raw[a] = some .waiting).map fun a => ⟨.cap, .captureTimeout, a.val, BitVec.ofNat 32 e.source.val, 0⟩

theorem handOutcome_raised (e : Entry) (a : AxisId) (o : ZeroResult) (s : State) (l : List RaiseMsg) :
    handOutcome e a o (s.raised l) = (handOutcome e a o s).raised l := by
  unfold handOutcome
  split <;> rfl

theorem tellTimeout_raised (e : Entry) (s : State) (l : List RaiseMsg) (a : AxisId) :
    tellTimeout e (s.raised l) a = (tellTimeout e s a).raised l := by
  unfold tellTimeout
  split
  · exact handOutcome_raised e a .timeout s l
  · rfl

theorem foldl_tellTimeout_raised (e : Entry) (k : List AxisId) (s : State) (l : List RaiseMsg) :
    k.foldl (tellTimeout e) (s.raised l) = (k.foldl (tellTimeout e) s).raised l := by
  induction k generalizing s with
  | nil => rfl
  | cons a k ih => rw [List.foldl_cons, tellTimeout_raised, ih, List.foldl_cons]

theorem timeoutRaw_eq (a : AxisId) (s : State) (e : Entry) :
    timeoutRaw a s e = ((tellTimeout e s a).raised (timeoutRaises e [a]), timedOutAt e a) := by
  by_cases waits : e.raw[a] = some .waiting
  · have raises : timeoutRaises e [a] = [⟨.cap, .captureTimeout, a.val, BitVec.ofNat 32 e.source.val, 0⟩] := by
      rw [timeoutRaises, List.filter_cons_of_pos (p := fun b : AxisId => e.raw[b] = some .waiting)
        (decide_eq_true waits)]
      rfl
    rw [tellTimeout, timedOutAt, if_pos waits, if_pos waits, raises, ← handOutcome_raised]
    exact if_pos (beq_iff_eq.2 waits)
  · have raises : timeoutRaises e [a] = [] := by
      rw [timeoutRaises, List.filter_cons_of_neg (p := fun b : AxisId => e.raw[b] = some .waiting)
        (mt of_decide_eq_true waits)]
      rfl
    rw [tellTimeout, timedOutAt, if_neg waits, if_neg waits, raises, State.raised_nil]
    exact if_neg (mt beq_iff_eq.1 waits)

theorem timedOutAt_other {e : Entry} {a b : AxisId} (apart : a ≠ b) : (timedOutAt e a).raw[b] = e.raw[b] := by
  unfold timedOutAt
  split
  · rw [raw_resolve, if_neg apart]
  · rfl

theorem timedOutAt_fields (e : Entry) (a : AxisId) : timedOutAt e a = { e with raw := (timedOutAt e a).raw } := by
  unfold timedOutAt
  split <;> rfl

theorem tellTimeout_timedOutAt {e : Entry} {a b : AxisId} (apart : a ≠ b) (u : State) :
    tellTimeout (timedOutAt e a) u b = tellTimeout e u b := by
  have raw := timedOutAt_other (e := e) apart
  rw [timedOutAt_fields] at raw ⊢
  simp only [tellTimeout, handOutcome] at raw ⊢
  rw [raw]

theorem timeoutRaises_timedOutAt {e : Entry} {a : AxisId} {l : List AxisId} (fresh : a ∉ l) :
    timeoutRaises (timedOutAt e a) l = timeoutRaises e l := by
  have waiting : (l.filter fun b => (timedOutAt e a).raw[b] = some .waiting)
      = l.filter fun b => e.raw[b] = some .waiting :=
    List.filter_congr fun b hb => by
      have apart : a ≠ b := fun same => fresh (same ▸ hb)
      rw [timedOutAt_other apart]
  have source : (timedOutAt e a).source = e.source := by rw [timedOutAt_fields]
  rw [timeoutRaises, waiting, source, timeoutRaises]

theorem foldl_timeoutRaw (l : List AxisId) (nodup : l.Nodup) (s : State) (e : Entry) :
    l.foldl (fun se a => timeoutRaw a se.1 se.2) (s, e)
      = ((l.foldl (tellTimeout e) s).raised (timeoutRaises e l), l.foldl timedOutAt e) := by
  induction l generalizing s e with
  | nil => rw [show timeoutRaises e [] = [] from rfl, State.raised_nil]; rfl
  | cons a l ih =>
    obtain ⟨fresh, nodup⟩ := List.nodup_cons.1 nodup
    have told (u : State) : l.foldl (tellTimeout (timedOutAt e a)) u = l.foldl (tellTimeout e) u :=
      List.foldl_ext _ _ _ fun v b hb =>
        have apart : a ≠ b := fun same => fresh (same ▸ hb)
        tellTimeout_timedOutAt apart v
    have raises : timeoutRaises e (a :: l) = timeoutRaises e [a] ++ timeoutRaises e l := by
      simp only [timeoutRaises, ← List.map_append, ← List.filter_append, List.singleton_append]
    rw [List.foldl_cons, timeoutRaw_eq, ih nodup, told, timeoutRaises_timedOutAt fresh, foldl_tellTimeout_raised, raises,
      State.raised_append, List.foldl_cons, List.foldl_cons]

/-- R141: a raw field, resolved TIMEOUT if it waits. -/
def fieldTimedOut (f : Option Field) : Option Field :=
  if f = some .waiting then some (.absent .timeout) else f

/-- R141: the entry with every waiting raw field resolved TIMEOUT. -/
def timedOutEntry (e : Entry) : Entry :=
  { e with raw := e.raw.map fieldTimedOut }

theorem foldl_timedOutAt_raw (l : List AxisId) (e : Entry) (b : AxisId) : (l.foldl timedOutAt e).raw[b]
    = if b ∈ l ∧ e.raw[b] = some .waiting then some (.absent .timeout) else e.raw[b] := by
  induction l generalizing e with
  | nil => simp
  | cons a l ih =>
    rw [List.foldl_cons, ih]
    by_cases same : a = b
    · subst same
      by_cases waits : e.raw[a] = some .waiting
      · have now : (timedOutAt e a).raw[a] = some (.absent .timeout) := by
          rw [timedOutAt, if_pos waits, raw_resolve, if_pos rfl]
        simp [now, waits]
      · have still : timedOutAt e a = e := if_neg waits
        simp only [still, waits, and_false, if_false]
    · rw [timedOutAt_other same]
      simp [Ne.symm same]

theorem foldl_timedOutAt_fields (l : List AxisId) (e : Entry) :
    l.foldl timedOutAt e = { e with raw := (l.foldl timedOutAt e).raw } := by
  induction l generalizing e with
  | nil => rfl
  | cons a l ih => rw [List.foldl_cons, ih, timedOutAt_fields]

theorem foldl_timedOutAt (e : Entry) : allAxes.foldl timedOutAt e = timedOutEntry e := by
  have raw : (allAxes.foldl timedOutAt e).raw = (timedOutEntry e).raw := Vector.ext fun a ha => by
    have entry := foldl_timedOutAt_raw allAxes e ⟨a, ha⟩
    simp only [mem_allAxes, true_and] at entry
    exact entry.trans (Vector.getElem_map fieldTimedOut ha).symm
  rw [foldl_timedOutAt_fields, raw]
  rfl

/-- R105: the engine of the entry's zero is told TIMEOUT if the zero's field waits. -/
def tellZeroTimeout (u : State) (e : Entry) : State :=
  match e.zeroMark with
  | some a =>
      if e.raw[a] = some .waiting then
        { u with bus := { u.bus with
          zeroMsgs := u.bus.zeroMsgs.set a.val (u.bus.zeroMsgs[a] ++ [.outcome e.id .timeout]) a.isLt } }
      else u
  | none => u

theorem foldl_tellTimeout (e : Entry) (u : State) : allAxes.foldl (tellTimeout e) u = tellZeroTimeout u e := by
  have others {a : AxisId} (unmarked : e.zeroMark ≠ some a) (v : State) : tellTimeout e v a = v := by
    simp [tellTimeout, handOutcome, unmarked]
  unfold tellZeroTimeout
  cases mark : e.zeroMark with
  | none =>
    rw [List.foldl_ext _ (fun v _ => v) u fun v a _ => others (mark ▸ nofun) v, List.foldl_fixed]
  | some a =>
    have apart (v : State) (b : AxisId) (ne : b ≠ a) : tellTimeout e v b = v :=
      others (mark ▸ fun same => ne (Option.some.inj same).symm) v
    rw [foldl_of_acts_once nodup_allAxes (mem_allAxes a) apart, tellTimeout, handOutcome, if_pos mark]
    rfl

/-- R141: what the timeout of an entry does. -/
theorem timeoutAll_eq (s : State) (e : Entry) :
    timeoutAll s e = ((tellZeroTimeout s e).raised (timeoutRaises e allAxes), timedOutEntry e) := by
  rw [timeoutAll, foldl_timeoutRaw allAxes nodup_allAxes, foldl_tellTimeout, foldl_timedOutAt]

/-! ### The timeouts of an advance -/

theorem raw_timedOutEntry (e : Entry) (a : AxisId) : (timedOutEntry e).raw[a] ≠ some .waiting := by
  have entry : (timedOutEntry e).raw[a] = fieldTimedOut e.raw[a] := Vector.getElem_map fieldTimedOut a.isLt
  rw [entry, fieldTimedOut]
  split
  · exact nofun
  next resolved => exact resolved

theorem Entry.linked.timedOut {e : Entry} (h : e.linked) : (timedOutEntry e).linked := by
  rw [← foldl_timedOutAt]
  have each (a : AxisId) (s : State) (d : Entry) : ResolvedAt a d (s, timedOutAt d a).2 := by
    have := timeoutRaw_resolvedAt a s d
    rwa [timeoutRaw_eq] at this
  have fold := linked_foldl_fields (op := timeoutRaw) timeoutRaw_resolvedAt allAxes (State.reset, e) h
  rwa [foldl_timeoutRaw allAxes nodup_allAxes] at fold

/-- R141, R144: the entry leaves the list, its fields timed out. -/
def finishTimedOut (u : State) (e : Entry) : State :=
  completeEntry ((tellZeroTimeout u e).raised (timeoutRaises e allAxes ++ (timedOutEntry e).saturations))
    (timedOutEntry e).settled

/-- R141: the timeout test leaves the entries whose deadline is not passed, and completes the others. -/
theorem swept_timeoutTest {s : State} (unresolved : s.entriesUnresolved) (timeout : Nat) (time : Time) :
    swept (timeoutTest timeout time) s =
      let t := (s.cap.entries.filter (deadlinePassed timeout time)).foldl finishTimedOut s
      { t with cap := { t.cap with entries := s.cap.entries.filter fun e => !deadlinePassed timeout time e } } := by
  have works (u : State) (e : Entry) : timeoutTest timeout time u e
      = (if deadlinePassed timeout time e then (tellZeroTimeout u e).raised (timeoutRaises e allAxes) else u,
        if deadlinePassed timeout time e then timedOutEntry e else e) := by
    unfold timeoutTest
    rw [timeoutAll_eq]
    split <;> rfl
  have each (u : State) (e : Entry) (mem : e ∈ s.cap.entries) :
      finishEntry (if deadlinePassed timeout time e then (tellZeroTimeout u e).raised (timeoutRaises e allAxes) else u)
        (if deadlinePassed timeout time e then timedOutEntry e else e)
      = if deadlinePassed timeout time e then finishTimedOut u e else u := by
    split
    · have complete := complete_settled (unresolved e mem).linked.timedOut (raw_timedOutEntry e)
      rw [finishEntry, if_pos complete, finishTimedOut, State.raised_append]
    · exact finishEntry_of_unresolved (unresolved e mem) u
  have kept : (s.cap.entries.map fun e => (if deadlinePassed timeout time e then timedOutEntry e else e).settled).filter
      (fun e => !e.complete) = s.cap.entries.filter fun e => !deadlinePassed timeout time e := by
    have complete (e : Entry) (mem : e ∈ s.cap.entries) :
        (if deadlinePassed timeout time e then timedOutEntry e else e).settled.complete
          = deadlinePassed timeout time e := by
      split
      next passed =>
        exact (complete_settled (unresolved e mem).linked.timedOut (raw_timedOutEntry e)).trans passed.symm
      next waits =>
        rw [settled_of_unresolved (unresolved e mem), incomplete_of_unresolved (unresolved e mem)]
        exact (Bool.eq_false_iff.2 waits).symm
    have filtered : s.cap.entries.filter ((fun e => !e.complete) ∘ fun e =>
        (if deadlinePassed timeout time e then timedOutEntry e else e).settled)
        = s.cap.entries.filter fun e => !deadlinePassed timeout time e :=
      List.filter_congr fun e mem => congrArg Bool.not (complete e mem)
    have same (e : Entry) (mem : e ∈ s.cap.entries.filter fun e => !deadlinePassed timeout time e) :
        (if deadlinePassed timeout time e then timedOutEntry e else e).settled = e := by
      obtain ⟨listed, waits⟩ := List.mem_filter.1 mem
      rw [if_neg (by simpa using waits), settled_of_unresolved (unresolved e listed)]
    rw [List.filter_map, filtered, List.map_congr_left same, List.map_id']
  rw [swept_of_pure works, kept, List.foldl_ext _ _ _ each, ← List.foldl_filter]

/-- What timeouts leave as it is. -/
def TimingOut (s t : State) : Prop :=
  t = { s with
    freeIndex := t.freeIndex
    cap := { s.cap with lastEdge := t.cap.lastEdge }
    fmn := { s.fmn with flags := t.fmn.flags, counts := t.fmn.counts, first := t.fmn.first }
    bus := { s.bus with
      zeroMsgs := t.bus.zeroMsgs, halts := t.bus.halts
      records := t.bus.records, raises := t.bus.raises, reports := t.bus.reports } }

theorem TimingOut.trans {s t u : State} (first : TimingOut s t) (second : TimingOut t u) : TimingOut s u := by
  unfold TimingOut at *
  rw [second, first]

theorem Completing.timingOut {s t : State} (h : Completing s t) : TimingOut s t := by
  unfold TimingOut
  rw [h]

theorem finishTimedOut_timingOut (u : State) (e : Entry) : TimingOut u (finishTimedOut u e) := by
  have told : TimingOut u (tellZeroTimeout u e) := by
    unfold tellZeroTimeout
    split
    · split <;> rfl
    · rfl
  exact told.trans ((completing_raised _ _).trans (completeEntry_completing _ _)).timingOut

theorem foldl_finishTimedOut (l : List Entry) (s : State) : TimingOut s (l.foldl finishTimedOut s) := by
  induction l generalizing s with
  | nil => rfl
  | cons e l ih => exact (finishTimedOut_timingOut s e).trans (ih _)

/-- Settles O57: what the timeout test makes of an entry depends on the entry alone. -/
theorem captureTimeoutsResolvePassedEntries : Obligations.CaptureTimeoutsResolvePassedEntries := by
  unfold Obligations.CaptureTimeoutsResolvePassedEntries
  intro s time rest advances unresolved passed timedOut late told finished start t
  have state : TimingOut start t := foldl_finishTimedOut _ start
  refine ⟨?_, fun e mem => complete_settled (unresolved e mem).linked.timedOut (raw_timedOutEntry e), state⟩
  have event : exec .captureTimeout s = .next (start.sweepPending (timeoutTest s.cap.timeout time)) := by
    refine congrArg Host.Outcome.next ?_
    rw [advances]
    rfl
  rw [event, sweepPending_eq_swept, swept_timeoutTest (s := start) unresolved]
  rfl

end Sys2Proof.Machine
end

section
/-! SUPPORT. CAP's compare slots at an advance, slot after slot (R131), and the halt (R136). -/

namespace Sys2Proof.Machine

/-! ### A trigger keeps the slots -/

theorem Completing.slots {s t : State} (h : Completing s t) : t.cap.slots = s.cap.slots := by
  rw [h]

theorem completeEntry_slots (s : State) (e : Entry) : (completeEntry s e).cap.slots = s.cap.slots :=
  (completeEntry_completing s e).slots

theorem testNew_cap (s : State) (e : Entry) : (testNew s e).1.cap = s.cap :=
  (testNew_messagesOnly s e).cap

theorem placeEntry_slots (e : Entry) (s : State) : (placeEntry e s).cap.slots = s.cap.slots := by
  have taken : (if e.record then s.report .cap .triggersTaken else s).cap = s.cap := by split <;> rfl
  unfold placeEntry
  generalize (if e.record then s.report .cap .triggersTaken else s) = u at taken ⊢
  dsimp only
  split
  · rw [completeEntry_slots, testNew_cap, taken]
  · simp only [State.modCap, testNew_cap, taken]

theorem takeTrigger_slots (t : Trigger) (record : Bool) (zeroMark : Option AxisId) (s : State) :
    (takeTrigger t record zeroMark s).cap.slots = s.cap.slots := by
  unfold takeTrigger
  split
  · rfl
  · rw [placeEntry_slots]
    rfl

/-! ### One slot -/

section
variable {s u : State} {time : Time} {j : Fin 4}

/-- R131: slot j fires at this link time. -/
def slotFires (s : State) (time : Time) (j : Fin 4) : Bool :=
  (s.cap.slots[j]).enable && !later (s.cap.slots[j]).next time

/-- R131: the number of firings that the slot skips. -/
def slotSkips (x : CompareSlot) (time : Time) : Nat :=
  if x.period = 0 then 0 else skippedFirings x time

/-- R131, R189: what CAP raises for m skipped firings of slot j. -/
def missedRaises (j : Fin 4) (m : Nat) : List RaiseMsg :=
  if m = 0 then []
  else [⟨.cap, .compareMissed, 8 + j.val,
    if m ≤ 4294967295 then BitVec.ofNat 32 m else Config.wideMissed m, m - 1⟩]

theorem raiseTimes_missed (s : State) (j : Fin 4) (m : Nat) :
    s.raiseTimes .cap .compareMissed (8 + j.val) (missedDetail m) m = s.raised (missedRaises j m) := by
  have detail : BitVec.ofInt 32 (missedDetail m)
      = if m ≤ 4294967295 then BitVec.ofNat 32 m else Config.wideMissed m := by
    unfold missedDetail
    split
    · exact BitVec.ofInt_natCast ..
    · rw [BitVec.ofInt_natCast, BitVec.ofNat_toNat, BitVec.setWidth_eq]
  unfold State.raiseTimes missedRaises
  split
  · rw [State.raised_nil]
  · rw [detail]
    rfl

/-- R133: a firing of slot j is a trigger that is taken. -/
abbrev slotTriggers (s : State) (j : Fin 4) : Prop :=
  s.cap.state = .armed ∧ (s.cap.map[slotSource j]).mask ≠ 0

/-- R133: a firing of slot j is counted as a dropped trigger. -/
def slotCounted (s : State) (j : Fin 4) : Bool :=
  s.cap.state == .halted && (s.cap.map[slotSource j]).mask != 0

/-- R131, R133: the TIMED trigger of slot j offered in the state u of the event; s is the state before the event. -/
def slotOffered (s u : State) (j : Fin 4) : State :=
  if slotTriggers s j then takeTrigger ⟨.timed, slotSource j, .none, (s.cap.slots[j]).next⟩ true none u
  else if slotCounted s j then u.report .cap .triggersDropped
  else u

/-- R131: slot j fires in the state u of the event. -/
def slotFired (s : State) (time : Time) (u : State) (j : Fin 4) : State :=
  let w := slotOffered s (u.report .cap .compareFires) j
  State.raised { w with
    cap := { w.cap with slots := w.cap.slots.set j.val (slotAfter s.cap.slots[j] time) j.isLt } }
    (missedRaises j (slotSkips s.cap.slots[j] time))

/-- The settings by which the slots are examined are those before the event. -/
def SlotsAsBefore (s u : State) : Prop :=
  u.cap.state = s.cap.state ∧ u.cap.map = s.cap.map

theorem offerOrdinary_slot (same : SlotsAsBefore s u) (j : Fin 4) :
    offerOrdinary ⟨.timed, slotSource j, .none, (s.cap.slots[j]).next⟩ u = slotOffered s u j := by
  obtain ⟨state, map⟩ := same
  unfold offerOrdinary slotOffered slotTriggers slotCounted maskEmpty
  rw [state, map]
  generalize (s.cap.map[slotSource j]).mask = mask
  by_cases empty : mask = 0
  · simp [empty]
  · cases s.cap.state with
    | stopped => simp
    | armed => rw [if_neg (by simpa using empty), if_pos ⟨rfl, empty⟩]
    | halted => rw [if_neg (by simpa using empty), if_neg (by simp), if_pos (by simpa using empty)]

theorem slotOffered_slots (s u : State) (j : Fin 4) : (slotOffered s u j).cap.slots = u.cap.slots := by
  unfold slotOffered
  split
  · exact takeTrigger_slots ..
  · split <;> rfl

theorem slotOffered_outside (s u : State) (j : Fin 4) : OutsideCapture u (slotOffered s u j) := by
  unfold slotOffered
  split
  · exact takeTrigger_outside ..
  · split
    · exact (captureWork_report ..).outside
    · simp

theorem slotFired_slots (s : State) (time : Time) (u : State) (j : Fin 4) : (slotFired s time u j).cap.slots
    = u.cap.slots.set j.val (slotAfter s.cap.slots[j] time) j.isLt := by
  simp only [slotFired, State.raised, slotOffered_slots]
  rfl

theorem slotFired_asBefore (same : SlotsAsBefore s u) (time : Time) (j : Fin 4) :
    SlotsAsBefore s (slotFired s time u j) := by
  obtain ⟨state, map⟩ := same
  have kept := slotOffered_outside s (u.report .cap .compareFires) j
  simp only [OutsideCapture] at kept
  obtain ⟨-, -, -, -, -, -, -, sameState, sameMap, -⟩ := kept
  exact ⟨sameState.trans state, sameMap.trans map⟩

theorem slotFired_slotChecks (s : State) (time : Time) (u : State) (j : Fin 4) :
    (slotFired s time u j).bus.slotChecks = u.bus.slotChecks := by
  have kept := slotOffered_outside s (u.report .cap .compareFires) j
  simp only [OutsideCapture] at kept
  obtain ⟨-, -, -, -, -, -, -, -, -, -, -, -, -, -, -, slotChecks, -⟩ := kept
  exact slotChecks

theorem examineSlot_eq (same : SlotsAsBefore s u) (slot : u.cap.slots[j] = s.cap.slots[j]) :
    examineSlot time u j = if slotFires s time j then slotFired s time u j else u := by
  have slots : (slotOffered s (u.report .cap .compareFires) j).cap.slots[j] = s.cap.slots[j] :=
    (congrArg (·[j]) (slotOffered_slots s (u.report .cap .compareFires) j)).trans slot
  unfold examineSlot
  dsimp only
  rw [slot, slotFires]
  split
  · simp only [fireSlot]
    have reported : SlotsAsBefore s (u.report .cap .compareFires) := same
    rw [slot, raiseTimes_missed, offerOrdinary_slot reported, slotFired, State.modCap, modifyAt, slots]
    rfl
  · rfl

/-- Where no firing becomes a trigger, a firing moves the slot and sends messages only. -/
theorem slotFired_quiet (quiet : ¬slotTriggers s j) (u : State) : slotFired s time u j = { u with
    cap := { u.cap with slots := u.cap.slots.set j.val (slotAfter s.cap.slots[j] time) j.isLt }
    bus := { u.bus with
      reports := u.bus.reports
        ++ (⟨.cap, .compareFires, 0⟩ :: if slotCounted s j then [⟨.cap, .triggersDropped, 0⟩] else [])
      raises := u.bus.raises ++ missedRaises j (slotSkips s.cap.slots[j] time) } } := by
  rw [slotFired, slotOffered, if_neg quiet]
  split
  · have both : (u.report .cap .compareFires).report .cap .triggersDropped = { u with bus := { u.bus with
        reports := u.bus.reports ++ [⟨.cap, .compareFires, 0⟩, ⟨.cap, .triggersDropped, 0⟩] } } := by
      rw [List.append_cons]
      rfl
    rw [both]
    rfl
  · rfl

end

/-! ### The four slots in turn -/

section
variable {s : State} {time : Time}

theorem foldl_examineSlot (l : List (Fin 4)) (nodup : l.Nodup) (u : State) (same : SlotsAsBefore s u)
    (slots : ∀ j ∈ l, u.cap.slots[j] = s.cap.slots[j]) :
    l.foldl (examineSlot time) u = (l.filter (slotFires s time)).foldl (slotFired s time) u := by
  induction l generalizing u with
  | nil => rfl
  | cons j l ih =>
    obtain ⟨fresh, nodup⟩ := List.nodup_cons.1 nodup
    rw [List.foldl_cons, examineSlot_eq same (slots j List.mem_cons_self)]
    by_cases fires : slotFires s time j = true
    · rw [if_pos fires, List.filter_cons_of_pos fires, List.foldl_cons]
      refine ih nodup _ (slotFired_asBefore same time j) fun k mem => ?_
      have apart : j.val ≠ k.val := fun same => fresh (Fin.ext same ▸ mem)
      rw [← slots k (List.mem_cons_of_mem j mem), slotFired_slots]
      exact Vector.getElem_set_ne j.isLt k.isLt apart
    · rw [if_neg fires, List.filter_cons_of_neg fires]
      exact ih nodup u same fun k mem => slots k (List.mem_cons_of_mem j mem)

/-- R131: the slots after the firings. -/
def slotsMoved (s : State) (time : Time) (v : Vector CompareSlot 4) (j : Fin 4) : Vector CompareSlot 4 :=
  v.set j.val (slotAfter s.cap.slots[j] time) j.isLt

theorem foldl_slotFired_slots (l : List (Fin 4)) (u : State) :
    (l.foldl (slotFired s time) u).cap.slots = l.foldl (slotsMoved s time) u.cap.slots := by
  induction l generalizing u with
  | nil => rfl
  | cons j l ih => rw [List.foldl_cons, ih, slotFired_slots, List.foldl_cons, slotsMoved]

theorem foldl_slotsMoved_get (l : List (Fin 4)) (v : Vector CompareSlot 4) (j : Fin 4) :
    (l.foldl (slotsMoved s time) v)[j] = if j ∈ l then slotAfter s.cap.slots[j] time else v[j] := by
  induction l generalizing v with
  | nil => rfl
  | cons k l ih =>
    rw [List.foldl_cons, ih]
    by_cases same : k = j
    · subst same
      simp [slotsMoved]
    · have apart : k.val ≠ j.val := fun h => same (Fin.ext h)
      have kept : (slotsMoved s time v k)[j] = v[j] := Vector.getElem_set_ne k.isLt j.isLt apart
      simp only [kept, List.mem_cons, Ne.symm same, false_or]

theorem foldl_slotsMoved (s : State) (time : Time) :
    ((List.finRange 4).filter (slotFires s time)).foldl (slotsMoved s time) s.cap.slots
      = Vector.ofFn fun j => if slotFires s time j then slotAfter s.cap.slots[j] time else s.cap.slots[j] := by
  refine Vector.ext fun j hj => ?_
  have entry := foldl_slotsMoved_get (s := s) (time := time) ((List.finRange 4).filter (slotFires s time)) s.cap.slots
    ⟨j, hj⟩
  simp only [List.mem_filter, List.mem_finRange, true_and] at entry
  rw [Vector.getElem_ofFn]
  exact entry

theorem foldl_slotFired_slotChecks (l : List (Fin 4)) (u : State) :
    (l.foldl (slotFired s time) u).bus.slotChecks = u.bus.slotChecks := by
  induction l generalizing u with
  | nil => rfl
  | cons j l ih => rw [List.foldl_cons, ih, slotFired_slotChecks]

theorem foldl_slotFired_asBefore (l : List (Fin 4)) (u : State) (same : SlotsAsBefore s u) :
    SlotsAsBefore s (l.foldl (slotFired s time) u) := by
  induction l generalizing u with
  | nil => exact same
  | cons j l ih => exact ih _ (slotFired_asBefore same time j)

theorem foldl_slotFired_quiet (l : List (Fin 4)) (quiet : ∀ j ∈ l, ¬slotTriggers s j) (u : State) :
    l.foldl (slotFired s time) u = { u with
      cap := { u.cap with slots := l.foldl (slotsMoved s time) u.cap.slots }
      bus := { u.bus with
        reports := u.bus.reports ++ l.flatMap fun j =>
          ⟨.cap, .compareFires, 0⟩ :: if slotCounted s j then [⟨.cap, .triggersDropped, 0⟩] else []
        raises := u.bus.raises ++ l.flatMap fun j => missedRaises j (slotSkips s.cap.slots[j] time) } } := by
  induction l generalizing u with
  | nil => simp
  | cons j l ih =>
    rw [List.foldl_cons, slotFired_quiet (quiet j List.mem_cons_self), ih fun k mem => quiet k (List.mem_cons_of_mem j mem)]
    simp only [List.flatMap_cons, List.append_assoc, List.foldl_cons]
    rfl

/-- R131: CAP examines its slots at an advance. -/
theorem exec_compareFire {rest : List Time} (checks : s.bus.slotChecks = time :: rest) : exec .compareFire s =
    .next (((List.finRange 4).filter (slotFires s time)).foldl (slotFired s time)
      { s with bus := { s.bus with slotChecks := rest } }) := by
  have fold := foldl_examineSlot (s := s) (time := time) (List.finRange 4) (List.nodup_finRange 4)
    { s with bus := { s.bus with slotChecks := rest } } ⟨rfl, rfl⟩ fun _ _ => rfl
  refine congrArg Host.Outcome.next ?_
  rw [checks, ← fold]
  rfl

end

/-- Settles O58: the four slots are examined by the settings before the event, each once. -/
theorem compareSlotsFireAndHaltsStop : Obligations.CompareSlotsFireAndHaltsStop := by
  unfold Obligations.CompareSlotsFireAndHaltsStop
  refine ⟨fun s time rest checks => ?_, fun s halts => ?_⟩
  · intro fires skipped detail moved countedAt firing reports raises slots source fired
    have event := exec_compareFire checks
    have asBefore : SlotsAsBefore s { s with bus := { s.bus with slotChecks := rest } } := ⟨rfl, rfl⟩
    have after := (foldl_slotFired_slots (s := s) (time := time) firing
      { s with bus := { s.bus with slotChecks := rest } }).trans (foldl_slotsMoved s time)
    refine ⟨event, ⟨_, event, after, foldl_slotFired_slotChecks firing _,
      (foldl_slotFired_asBefore firing _ asBefore).1⟩, fun quiet => ?_⟩
    have none (j : Fin 4) (mem : j ∈ (List.finRange 4).filter (slotFires s time)) : ¬slotTriggers s j := by
      rintro ⟨armed, mask⟩
      obtain other | empty := quiet
      · exact other armed
      · exact mask (empty j (List.mem_filter.1 mem).2)
    rw [event, foldl_slotFired_quiet _ none, foldl_slotsMoved]
    rfl
  · refine congrArg Host.Outcome.next ((if_neg halts.ne').trans ?_)
    cases state : s.cap.state <;> simp [State.modBus, State.modCap, haltCapture, state]

end Sys2Proof.Machine
end

section
/-! SUPPORT. CAP taking a trigger: the new entry (R137), its fields tested in the same event (R138), and the entries that
still wait after that. -/

namespace Sys2Proof.Machine

/-! ### Composites resolve once -/

theorem compositeFound_settled (e : Entry) (c : Fin 4) : e.settled.compositeFound c = none := by
  cases found : e.settled.compositeFound c with
  | none => rfl
  | some f =>
    have waits := composite_of_compositeFound found
    obtain ⟨waited, unfound⟩ := composite_settled_waiting waits
    have same : e.settled.compositeFound c = e.compositeFound c := by
      simp only [Entry.compositeFound, waits, waited]
      rfl
    exact nomatch found.symm.trans (same.trans unfound)

theorem settled_settled (e : Entry) : e.settled.settled = e.settled :=
  settled_of_unfound (compositeFound_settled e)

theorem saturations_settled (e : Entry) : e.settled.saturations = [] :=
  saturations_of_unfound (compositeFound_settled e)

/-! ### The fields tested as the trigger is taken -/

/-- R139: the entry with its raw fields tested one after another. -/
def testedRaws (s : State) (e : Entry) : State × Entry :=
  allAxes.foldl (fun w a => testRaw a w.1 w.2) (s, e)

theorem ResolvedAt.fields {a : AxisId} {e d : Entry} (h : ResolvedAt a e d) : d = { e with raw := d.raw } := by
  obtain rfl | ⟨f, rfl, -⟩ := h <;> rfl

theorem foldl_testRaw_fields (l : List AxisId) (w : State × Entry) :
    (l.foldl (fun w a => testRaw a w.1 w.2) w).2
      = { w.2 with raw := (l.foldl (fun w a => testRaw a w.1 w.2) w).2.raw } := by
  induction l generalizing w with
  | nil => rfl
  | cons a l ih =>
    rw [List.foldl_cons, ih, (testRaw_resolvedAt a w.1 w.2).fields]

theorem testedRaws_fields (s : State) (e : Entry) :
    (testedRaws s e).2.settled = { e with
      raw := (testedRaws s e).2.raw, composite := (testedRaws s e).2.settled.composite } := by
  have fields : (testedRaws s e).2 = { e with raw := (testedRaws s e).2.raw } := foldl_testRaw_fields allAxes (s, e)
  rw [fields]
  rfl

theorem testedRaws_messagesOnly (s : State) (e : Entry) : MessagesOnly s (testedRaws s e).1 :=
  messagesOnly_foldl_fields testRaw_state allAxes (s, e)

/-- R138: what is left waiting after the tests times out if the deadline is passed. -/
def afterTests (u : State) (d : Entry) (passed : Bool) : State × Entry :=
  if passed then
    ((tellZeroTimeout u d).raised (timeoutRaises d allAxes ++ (timedOutEntry d).saturations), (timedOutEntry d).settled)
  else (u, d)

theorem settleComposites_timeoutTest (timeout : Nat) (time : Time) (u : State) (e : Entry) :
    settleComposites (timeoutTest timeout time u e.settled)
      = afterTests u e.settled (deadlinePassed timeout time e.settled) := by
  unfold timeoutTest afterTests
  split
  · rw [timeoutAll_eq, settleComposites_eq, ← State.raised_append]
  · rw [settleComposites_eq, saturations_settled, settled_settled, State.raised_nil]

theorem settleComposites_pair (w : State × Entry) :
    settleComposites w = (w.1.raised w.2.saturations, w.2.settled) :=
  settleComposites_eq w.1 w.2

theorem testNew_eq (s : State) (e : Entry) : testNew s e =
    afterTests ((testedRaws s e).1.raised (testedRaws s e).2.saturations) (testedRaws s e).2.settled
      (later s.cpt.observed (after e.time s.cap.timeout)) := by
  have state := testedRaws_messagesOnly s e
  have cpt : (testedRaws s e).1.cpt = s.cpt := by rw [state]
  have cap : (testedRaws s e).1.cap = s.cap := state.cap
  have time : (testedRaws s e).2.settled.time = e.time := by rw [testedRaws_fields]
  have settles := settleComposites_pair (testedRaws s e)
  unfold testNew
  unfold testedRaws at *
  rw [settles, settleComposites_timeoutTest, deadlinePassed, time]
  simp only [State.raised, cpt, cap]

/-- R138: the state in which a new entry is tested. -/
def triggerNoted (s : State) (record : Bool) : State :=
  { s with
    cap := { s.cap with nextId := s.cap.nextId + 1 }
    bus := { s.bus with reports := s.bus.reports ++ if record then [⟨.cap, .triggersTaken, 0⟩] else [] } }

/-- R138: the entry, its fields tested, leaves at once or joins the list. -/
def leaveOrJoin (v : State) (g : Entry) : State :=
  if g.complete then completeEntry v g else { v with cap := { v.cap with entries := v.cap.entries ++ [g] } }

section
variable {s : State} {t : Trigger} {record : Bool} {zero : Option AxisId}

theorem takeTrigger_full (full : 16 ≤ s.cap.entries.length) : takeTrigger t record zero s = dropTrigger t s :=
  if_pos full

theorem takeTrigger_room (room : s.cap.entries.length < 16) : takeTrigger t record zero s =
    leaveOrJoin (testNew (triggerNoted s record) (newEntry s t record zero)).1
      (testNew (triggerNoted s record) (newEntry s t record zero)).2 := by
  have noted : (if (newEntry s t record zero).record then
      (s.modCap fun c => { c with nextId := c.nextId + 1 }).report .cap .triggersTaken
      else s.modCap fun c => { c with nextId := c.nextId + 1 }) = triggerNoted s record := by
    cases record with
    | true => rfl
    | false => simp [newEntry, triggerNoted, State.modCap]
  have placed : takeTrigger t record zero s = placeEntry (newEntry s t record zero)
      (s.modCap fun c => { c with nextId := c.nextId + 1 }) := if_neg (Nat.not_le.2 room)
  rw [placed, placeEntry, noted]
  generalize testNew (triggerNoted s record) (newEntry s t record zero) = w
  rfl

theorem dropTrigger_eq (t : Trigger) (s : State) : dropTrigger t s = { s with bus := { s.bus with
    raises := s.bus.raises ++ [⟨.cap, .pendingFull, t.source.val, BitVec.ofNat 32 t.kind.code, 0⟩]
    reports := s.bus.reports ++ [⟨.cap, .triggersDropped, 0⟩] } } := rfl

end

/-! ### The new entry -/

section
variable {s : State} {t : Trigger} {record : Bool} {zero : Option AxisId}

/-- R137: composite c is copied into an entry with this mask and window axis. -/
abbrev Copied (mask : BitVec 10) (window : Option (Fin 10)) (c : Fin 4) : Prop :=
  mask.getLsbD (6 + c.val) = true ∨ ∃ x ∈ window, x.val = 6 + c.val

theorem copiesFor_get (u : Scu) (mask : BitVec 10) (window : Option (Fin 10)) (c : Fin 4) :
    (copiesFor u mask window)[c] = if Copied mask window c then some u.composites[c] else none := by
  have named : (mask.getLsbD (6 + c.val) || window.map (·.val) == some (6 + c.val)) = true ↔ Copied mask window c := by
    cases window <;> simp [Copied]
  simp only [copiesFor, Fin.getElem_fin, Vector.getElem_ofFn]
  exact if_congr named rfl rfl

/-- R95, R97: axis a is an input of a composite. -/
abbrev Uses (k : CompositeEntry) (a : AxisId) : Prop :=
  match k with
  | .unused => False
  | .weighted x y _ _ _ => x = a ∨ y = a
  | .diffRatio x y _ => x = a ∨ y = a

theorem usesInput_iff (k : CompositeEntry) (a : AxisId) : usesInput k a = true ↔ Uses k a := by
  cases k <;> simp [usesInput, Uses]

theorem awaits_iff (u : Scu) (mask : BitVec 10) (window : Option (Fin 10)) (zero : Option AxisId) (a : AxisId) :
    awaits mask window zero (copiesFor u mask window) a = true ↔
      mask.getLsbD a.val = true ∨ (∃ x ∈ window, x.val = a.val) ∨ zero = some a
        ∨ ∃ c : Fin 4, Copied mask window c ∧ Uses u.composites[c] a := by
  have named : (window.map (·.val) == some a.val) = true ↔ ∃ x ∈ window, x.val = a.val := by
    cases window <;> simp
  have inputs : ((copiesFor u mask window).toList.any fun c => match c with
      | some e => usesInput e a
      | none => false) = true ↔ ∃ c : Fin 4, Copied mask window c ∧ Uses u.composites[c] a := by
    rw [List.any_eq_true]
    constructor
    · rintro ⟨k, mem, uses⟩
      obtain ⟨i, hi, rfl⟩ := Vector.mem_iff_getElem.1 (Vector.mem_toList_iff.1 mem)
      have copy := copiesFor_get u mask window ⟨i, hi⟩
      rw [Fin.getElem_fin] at copy
      by_cases copied : Copied mask window ⟨i, hi⟩
      · rw [copy, if_pos copied] at uses
        exact ⟨⟨i, hi⟩, copied, (usesInput_iff _ a).1 uses⟩
      · rw [copy, if_neg copied] at uses
        cases uses
    · rintro ⟨c, copied, uses⟩
      refine ⟨some u.composites[c], ?_, (usesInput_iff _ a).2 uses⟩
      exact Vector.mem_toList_iff.2 (Vector.mem_iff_getElem.2
        ⟨c.val, c.isLt, (copiesFor_get u mask window c).trans (if_pos copied)⟩)
  unfold awaits
  rw [Bool.or_eq_true, Bool.or_eq_true, Bool.or_eq_true, ← or_assoc, ← or_assoc]
  exact or_congr (or_congr (or_congr Iff.rfl named) beq_iff_eq) inputs

theorem newEntry_copies (c : Fin 4) : (newEntry s t record zero).copies[c]
    = if Copied (newEntry s t record zero).mask (newEntry s t record zero).windowAxis c then some s.scu.composites[c]
      else none :=
  copiesFor_get ..

theorem newEntry_composite (c : Fin 4) : (newEntry s t record zero).composite[c]
    = (newEntry s t record zero).copies[c].map fun k => if k = .unused then .absent .off else .waiting := by
  have entry : (newEntry s t record zero).composite[c] = (newEntry s t record zero).copies[c].map fun k => match k with
      | .unused => .absent .off
      | _ => .waiting := Vector.getElem_ofFn c.isLt
  rw [entry]
  refine congrArg (Option.map · _) (funext fun k => ?_)
  cases k <;> rfl

theorem newEntry_raw (a : AxisId) : (newEntry s t record zero).raw[a]
    = if awaits (newEntry s t record zero).mask (newEntry s t record zero).windowAxis zero
        (copiesFor s.scu (newEntry s t record zero).mask (newEntry s t record zero).windowAxis) a then some .waiting
      else none :=
  Vector.getElem_ofFn a.isLt

end

/-! ### An entry that waits -/

/-- R138: an entry none of whose fields can be resolved yet, before its deadline, is as it was taken. -/
theorem testNew_of_waiting {s : State} {e : Entry} (unresolved : e.unresolved)
    (waits : ∀ a : AxisId, e.raw[a] = some .waiting → testField (s.axes[a]).ctx e.time = .waiting)
    (inTime : later s.cpt.observed (after e.time s.cap.timeout) = false) : testNew s e = (s, e) := by
  have each (a : AxisId) : testRaw a s e = (s, e) := by
    by_cases waiting : e.raw[a] = some .waiting
    · exact testRaw_waiting waiting (waits a waiting)
    · exact testRaw_not_waiting waiting s
  have raws : testedRaws s e = (s, e) := List.foldl_fixed' each allAxes
  rw [testNew_eq, raws, inTime]
  simp [afterTests, saturations_of_unresolved unresolved, settled_of_unresolved unresolved]

/-- R139: the newest entry of the ring is earlier than the time, and the axis counts on. -/
theorem testField_of_later {c : AxisContext} {t : Time} (counting : c.counting = true)
    (newer : ∀ h ∈ c.ring, later t h.time = true) (notOlder : ∀ h ∈ c.ring, later h.time t = false) :
    testField c t = .waiting := by
  have none : bracketAfter c.ring t = none := by
    rw [bracketAfter, List.find?_eq_none]
    exact fun h mem => by simpa using newer h mem
  have older : olderThanRing c.ring t = false :=
    olderThanRing_eq_false.2 fun h mem => notOlder h (List.mem_of_mem_head? mem)
  rw [testField_no_bracket (.inr none), older, counting]
  rfl

/-! ### An entry for one raw axis -/

/-- R137: the record mask of a trigger's entry. -/
def triggerMask (s : State) (t : Trigger) (record : Bool) : BitVec 10 :=
  if record then (s.cap.map[t.source]).mask else 0

/-- R137: a trigger's entry that awaits raw axis a and nothing else. -/
def loneEntry (s : State) (t : Trigger) (record : Bool) (zero : Option AxisId) (a : AxisId) : Entry :=
  { id := s.cap.nextId, kind := t.kind, source := t.source, polarity := t.polarity, time := t.time, record := record
    mask := triggerMask s t record, gated := (s.cap.map[t.source]).gated, zeroMark := zero
    windowAxis := none, copies := Vector.replicate 4 none
    raw := (Vector.replicate 6 none).set a.val (some .waiting) a.isLt
    composite := Vector.replicate 4 none }

section
variable {s : State} {t : Trigger} {record : Bool} {zero : Option AxisId} {a : AxisId}

theorem newEntry_lone (window : copiedWindowAxis s.cap t = none)
    (composites : ∀ c : Fin 4, (triggerMask s t record).getLsbD (6 + c.val) = false)
    (axes : ∀ b : AxisId, (triggerMask s t record).getLsbD b.val = true ∨ zero = some b ↔ b = a) :
    newEntry s t record zero = loneEntry s t record zero a := by
  have mask : (newEntry s t record zero).mask = triggerMask s t record := rfl
  have windowAxis : (newEntry s t record zero).windowAxis = none := window
  have uncopied (c : Fin 4) : ¬Copied (newEntry s t record zero).mask (newEntry s t record zero).windowAxis c := by
    rw [mask, windowAxis]
    rintro (named | ⟨x, none, -⟩)
    · exact absurd named (by simp [composites c])
    · cases none
  have copies : (newEntry s t record zero).copies = Vector.replicate 4 none := Vector.ext fun c hc => by
    have copy := newEntry_copies (s := s) (t := t) (record := record) (zero := zero) ⟨c, hc⟩
    rw [if_neg (uncopied ⟨c, hc⟩)] at copy
    exact copy.trans (Vector.getElem_replicate hc).symm
  have composite : (newEntry s t record zero).composite = Vector.replicate 4 none := Vector.ext fun c hc => by
    have entry := newEntry_composite (s := s) (t := t) (record := record) (zero := zero) ⟨c, hc⟩
    rw [copies] at entry
    simpa using entry
  have raw : (newEntry s t record zero).raw = (Vector.replicate 6 none).set a.val (some .waiting) a.isLt := by
    refine Vector.ext fun b hb => ?_
    have field := newEntry_raw (s := s) (t := t) (record := record) (zero := zero) ⟨b, hb⟩
    have only : awaits (newEntry s t record zero).mask (newEntry s t record zero).windowAxis zero
        (copiesFor s.scu (newEntry s t record zero).mask (newEntry s t record zero).windowAxis) ⟨b, hb⟩ = true
        ↔ a.val = b := by
      have axis : (⟨b, hb⟩ : AxisId) = a ↔ a.val = b := by rw [eq_comm, Fin.ext_iff]
      rw [awaits_iff, ← axis, ← axes, windowAxis]
      have named : ¬∃ x ∈ (none : Option (Fin 10)), x.val = b := by simp
      have inputs : ¬∃ c : Fin 4, Copied (newEntry s t record zero).mask none c ∧ Uses s.scu.composites[c] ⟨b, hb⟩ :=
        fun ⟨c, copied, _⟩ => uncopied c (windowAxis ▸ copied)
      rw [or_iff_right named, or_iff_left inputs]
      rfl
    rw [Vector.getElem_set, Vector.getElem_replicate]
    exact field.trans (if_congr only rfl rfl)
  calc newEntry s t record zero = { newEntry s t record zero with
        windowAxis := (newEntry s t record zero).windowAxis, copies := (newEntry s t record zero).copies
        raw := (newEntry s t record zero).raw, composite := (newEntry s t record zero).composite } := rfl
    _ = loneEntry s t record zero a := by
      rw [windowAxis, copies, raw, composite]
      rfl

theorem raw_loneEntry {b : AxisId} : (loneEntry s t record zero a).raw[b] = some .waiting ↔ b = a := by
  have field : (loneEntry s t record zero a).raw[b]
      = if a.val = b.val then some .waiting else (Vector.replicate 6 none)[b.val] :=
    Vector.getElem_set a.isLt b.isLt
  rw [field, Vector.getElem_replicate, Fin.ext_iff, eq_comm (a := b.val)]
  split <;> simp_all

theorem unresolved_loneEntry : (loneEntry s t record zero a).unresolved :=
  ⟨⟨a, raw_loneEntry.2 rfl⟩, fun c waits => by simp [loneEntry] at waits⟩

/-- R138: the entry of one raw axis that counts and has not passed the time waits at the end of the list. -/
theorem takeTrigger_lone (room : s.cap.entries.length < 16)
    (lone : newEntry s t record zero = loneEntry s t record zero a)
    (waits : testField (s.axes[a]).ctx t.time = .waiting)
    (inTime : later s.cpt.observed (after t.time s.cap.timeout) = false) : takeTrigger t record zero s =
    { triggerNoted s record with
      cap := { s.cap with nextId := s.cap.nextId + 1, entries := s.cap.entries ++ [loneEntry s t record zero a] } } := by
  have still : testNew (triggerNoted s record) (loneEntry s t record zero a)
      = (triggerNoted s record, loneEntry s t record zero a) :=
    testNew_of_waiting unresolved_loneEntry (fun b waiting => raw_loneEntry.1 waiting ▸ waits) inTime
  rw [takeTrigger_room room, lone, still, leaveOrJoin, if_neg (by simp [incomplete_of_unresolved unresolved_loneEntry])]
  rfl

end

end Sys2Proof.Machine
end

section
/-! SUPPORT. Edge triggers and reference events offered to CAP (R104, R133, R147) and MANUAL CAPTURE (R132). -/

namespace Sys2Proof.Machine

/-! ### Offered triggers -/

section
variable {s : State} {t : Trigger}

theorem maskEmpty_iff {source : SourceId} : maskEmpty s source = true ↔ (s.cap.map[source]).mask = 0 := beq_iff_eq

theorem offerOrdinary_ignored (h : (s.cap.map[t.source]).mask = 0 ∨ s.cap.state = .stopped) :
    offerOrdinary t s = s := by
  unfold offerOrdinary
  obtain empty | stopped := h
  · rw [if_pos (maskEmpty_iff.2 empty)]
  · rw [stopped]
    split <;> rfl

theorem offerOrdinary_halted (mask : (s.cap.map[t.source]).mask ≠ 0) (halted : s.cap.state = .halted) :
    offerOrdinary t s = s.report .cap .triggersDropped := by
  rw [offerOrdinary, if_neg (mt maskEmpty_iff.1 mask), halted]

theorem offerOrdinary_armed (mask : (s.cap.map[t.source]).mask ≠ 0) (armed : s.cap.state = .armed) :
    offerOrdinary t s = takeTrigger t true none s := by
  rw [offerOrdinary, if_neg (mt maskEmpty_iff.1 mask), armed]

/-- R147: CAP finds the zero state of an axis WAITING. -/
theorem zeroFound_waiting {a : AxisId} : zeroFound s a = .waiting ↔ (s.axes[a]).ctx.zero = .waiting
    ∧ ¬(.axe a ∈ s.mga.restartLeft ∧ .cap ∉ s.mga.restartLeft) := by
  have ahead : restartAhead s.mga a = true ↔ .axe a ∈ s.mga.restartLeft ∧ .cap ∉ s.mga.restartLeft := by
    simp [restartAhead]
  unfold zeroFound
  rw [← ahead]
  split <;> simp_all

end

/-! ### The oldest marker event -/

section
variable {s : State} {m : MarkerMsg} {rest : List MarkerMsg}

theorem exec_edgeTrigger (markers : s.bus.markers = m :: rest) (edge : m.reference = none) : exec .edgeTrigger s =
    .next (offerOrdinary ⟨.edge, ⟨m.source.val, by omega⟩, m.polarity, m.time⟩
      { s with bus := { s.bus with markers := rest } }) := by
  have trigger : markerTrigger m = ⟨.edge, ⟨m.source.val, by omega⟩, m.polarity, m.time⟩ := by
    rw [markerTrigger, edge]
    rfl
  refine congrArg Host.Outcome.next ?_
  rw [markers]
  dsimp only
  rw [edge, trigger]
  rfl

theorem exec_referenceEvent {a : AxisId} (markers : s.bus.markers = m :: rest) (reference : m.reference = some a) :
    exec .referenceEvent s = .next (offerReference ⟨.reference, ⟨m.source.val, by omega⟩, m.polarity, m.time⟩ a
      { s with bus := { s.bus with markers := rest } }) := by
  have trigger : markerTrigger m = ⟨.reference, ⟨m.source.val, by omega⟩, m.polarity, m.time⟩ := by
    rw [markerTrigger, reference]
    rfl
  refine congrArg Host.Outcome.next ?_
  rw [markers]
  dsimp only
  rw [reference, trigger]
  rfl

end

section
variable {s : State} {t : Trigger} {a : AxisId}

theorem offerReference_ordinary (found : zeroFound s a ≠ .waiting) : offerReference t a s = offerOrdinary t s :=
  if_neg found

theorem offerReference_full (found : zeroFound s a = .waiting) (full : 16 ≤ s.cap.entries.length) :
    offerReference t a s = dropTrigger t s :=
  (if_pos found).trans (if_pos full)

/-- R104: the reference event places a zero-resolution entry and tells the engine. -/
theorem offerReference_placed (found : zeroFound s a = .waiting) (room : s.cap.entries.length < 16) :
    offerReference t a s = takeTrigger t (decide (s.cap.state = .armed ∧ (s.cap.map[t.source]).mask ≠ 0)) (some a)
      (s.tellZero a (.placed s.cap.nextId (s.axes[a]).arming)) := by
  have record : (s.cap.state == .armed && !maskEmpty s t.source)
      = decide (s.cap.state = .armed ∧ (s.cap.map[t.source]).mask ≠ 0) := by
    rw [Bool.decide_and, decide_not]
    rfl
  rw [← record]
  exact (if_pos found).trans (if_neg (Nat.not_le.2 room))

end

/-! ### A trigger that is taken -/

section
variable {s : State} {t : Trigger} {record : Bool} {zero : Option AxisId}

theorem copiedWindowAxis_of_other (kind : t.kind ≠ .edge) : copiedWindowAxis s.cap t = none :=
  if_neg fun h => kind h.1

theorem newEntry_copies_composite (c : Fin 4) :
    (Copied (newEntry s t record zero).mask (newEntry s t record zero).windowAxis c →
      (newEntry s t record zero).copies[c] = some s.scu.composites[c] ∧ (newEntry s t record zero).composite[c]
        = some (if s.scu.composites[c] = .unused then .absent .off else .waiting))
    ∧ (¬Copied (newEntry s t record zero).mask (newEntry s t record zero).windowAxis c →
      (newEntry s t record zero).copies[c] = none ∧ (newEntry s t record zero).composite[c] = none) := by
  rw [newEntry_composite, newEntry_copies]
  refine ⟨fun copied => ?_, fun uncopied => ?_⟩
  · rw [if_pos copied]
    exact ⟨rfl, rfl⟩
  · rw [if_neg uncopied]
    exact ⟨rfl, rfl⟩

theorem newEntry_awaited {a : AxisId} {awaited : Prop}
    (named : awaits (newEntry s t record zero).mask (newEntry s t record zero).windowAxis zero
      (copiesFor s.scu (newEntry s t record zero).mask (newEntry s t record zero).windowAxis) a = true ↔ awaited) :
    (awaited → (newEntry s t record zero).raw[a] = some .waiting)
      ∧ (¬awaited → (newEntry s t record zero).raw[a] = none) := by
  rw [newEntry_raw]
  exact ⟨fun awaits => if_pos (named.2 awaits), fun other => if_neg (mt named.1 other)⟩

/-- R138: the tests of a taken trigger, with the marks of the entry written out. -/
theorem takeTrigger_tested (room : s.cap.entries.length < 16) : takeTrigger t record zero s =
    let w := testedRaws (triggerNoted s record) (newEntry s t record zero)
    let u := w.1.raised w.2.saturations
    let d := w.2.settled
    let passed := later s.cpt.observed (after t.time s.cap.timeout)
    leaveOrJoin
      (if passed then (tellZeroTimeout u d).raised (timeoutRaises d allAxes ++ (timedOutEntry d).saturations) else u)
      (if passed then (timedOutEntry d).settled else d) := by
  rw [takeTrigger_room room, testNew_eq]
  unfold afterTests
  dsimp only
  have passed : later (triggerNoted s record).cpt.observed
      (after (newEntry s t record zero).time (triggerNoted s record).cap.timeout)
    = later s.cpt.observed (after t.time s.cap.timeout) := rfl
  rw [passed]
  split <;> rfl

theorem tested_marks (u : State) (e : Entry) : (testedRaws u e).2.settled.zeroMark = e.zeroMark
    ∧ (testedRaws u e).2.settled.id = e.id ∧ (testedRaws u e).2.settled.source = e.source := by
  rw [testedRaws_fields]
  exact ⟨rfl, rfl, rfl⟩

end

theorem triggerNoted_false (s : State) :
    triggerNoted s false = { s with cap := { s.cap with nextId := s.cap.nextId + 1 } } := by
  simp [triggerNoted]

/-- Settles O54: the oldest marker event by the state of capture, and the entry of a trigger that is taken. -/
theorem triggersFollowTheCaptureState : Obligations.TriggersFollowTheCaptureState := by
  unfold Obligations.TriggersFollowTheCaptureState
  refine ⟨fun s m rest markers => ?_, fun s kind source polarity time record zero => ?_⟩
  · intro source mask taken record unseen
    have edges (edge : m.reference = none) : exec .edgeTrigger s
        = .next (offerOrdinary ⟨.edge, source, m.polarity, m.time⟩ taken) := exec_edgeTrigger markers edge
    have references (a : AxisId) (reference : m.reference = some a) : exec .referenceEvent s
        = .next (offerReference ⟨.reference, source, m.polarity, m.time⟩ a taken) :=
      exec_referenceEvent markers reference
    have ordinary (a : AxisId) (reference : m.reference = some a) (other : (s.axes[a]).ctx.zero ≠ .waiting ∨ unseen a) :
        exec .referenceEvent s = .next (offerOrdinary ⟨.reference, source, m.polarity, m.time⟩ taken) := by
      have found : zeroFound taken a ≠ .waiting := fun waiting =>
        have ⟨waits, seen⟩ := zeroFound_waiting.1 waiting
        other.elim (· waits) seen
      rw [references a reference, offerReference_ordinary found]
    have found (a : AxisId) (waiting : (s.axes[a]).ctx.zero = .waiting) (seen : ¬unseen a) :
        zeroFound taken a = .waiting := zeroFound_waiting.2 ⟨waiting, seen⟩
    have placed (a : AxisId) (reference : m.reference = some a) (waiting : (s.axes[a]).ctx.zero = .waiting)
        (seen : ¬unseen a) (room : s.cap.entries.length < 16) : exec .referenceEvent s
        = .next (takeTrigger ⟨.reference, source, m.polarity, m.time⟩ record (some a)
          (taken.tellZero a (.placed s.cap.nextId (s.axes[a]).arming))) :=
      (references a reference).trans (congrArg Host.Outcome.next (offerReference_placed (found a waiting seen) room))
    refine ⟨fun edge => ⟨fun ignored => ?_, fun named halted => ?_, fun named armed full => ?_⟩,
      fun edge named armed => ?_, fun a reference other => ⟨fun ignored => ?_, fun named halted => ?_,
      fun named armed => ?_⟩, fun a reference waiting seen room => placed a reference waiting seen room,
      fun a reference waiting seen => ⟨fun full => ?_, fun room quiet counting ring newer notOlder inTime => ?_⟩⟩
    · exact (edges edge).trans (congrArg Host.Outcome.next (offerOrdinary_ignored ignored))
    · exact (edges edge).trans (congrArg Host.Outcome.next (offerOrdinary_halted named halted))
    · exact (edges edge).trans (congrArg Host.Outcome.next
        ((offerOrdinary_armed (s := taken) named armed).trans (takeTrigger_full full)))
    · exact (edges edge).trans (congrArg Host.Outcome.next (offerOrdinary_armed named armed))
    · exact (ordinary a reference other).trans (congrArg Host.Outcome.next (offerOrdinary_ignored ignored))
    · exact (ordinary a reference other).trans (congrArg Host.Outcome.next (offerOrdinary_halted named halted))
    · exact (ordinary a reference other).trans (congrArg Host.Outcome.next (offerOrdinary_armed named armed))
    · exact (references a reference).trans
        (congrArg Host.Outcome.next (offerReference_full (found a waiting seen) full))
    · have unrecorded : record = false := decide_eq_false fun h => quiet.elim (· h.1) h.2
      let told : State := taken.tellZero a (.placed s.cap.nextId (s.axes[a]).arming)
      have lone : newEntry told ⟨.reference, source, m.polarity, m.time⟩ false (some a)
          = loneEntry told ⟨.reference, source, m.polarity, m.time⟩ false (some a) a :=
        newEntry_lone (copiedWindowAxis_of_other nofun) (fun c => BitVec.getLsbD_zero) fun b => by
          simp [triggerMask, eq_comm]
      have waits := testField_of_later counting newer notOlder
      rw [placed a reference waiting seen room, unrecorded, takeTrigger_lone (s := told) room lone waits inTime,
        triggerNoted_false]
      rfl
  · intro t
    refine ⟨fun full => ?_, fun room => ?_⟩
    · rw [takeTrigger_full full, dropTrigger_eq]
    intro mapped mask window copied uses awaited
    refine ⟨newEntry s t record zero, ⟨rfl, rfl, rfl, rfl, rfl, rfl, rfl, rfl, rfl, rfl⟩,
      fun c => newEntry_copies_composite (s := s) (t := t) (record := record) (zero := zero) c, fun a => ?_, ?_⟩
    · have named : awaits mask window zero (copiesFor s.scu mask window) a = true ↔ awaited a :=
        awaits_iff s.scu mask window zero a
      exact newEntry_awaited named
    · intro noted w u d passed late gone told v g
      obtain ⟨zeroMark, id, fired⟩ : d.zeroMark = zero ∧ d.id = (newEntry s t record zero).id ∧ d.source = source :=
        tested_marks (triggerNoted s record) (newEntry s t record zero)
      have telling : tellZeroTimeout u d = told := by
        unfold tellZeroTimeout
        rw [zeroMark, id] <;> rfl
      have raises : timeoutRaises d allAxes = late d := by
        unfold timeoutRaises
        rw [fired]
      rw [takeTrigger_tested room]
      change leaveOrJoin (if passed then (tellZeroTimeout u d).raised (timeoutRaises d allAxes ++ gone.saturations)
        else u) g = leaveOrJoin v g
      rw [telling, raises]

end Sys2Proof.Machine
end

section
/-! SUPPORT. MANUAL CAPTURE (R132). -/

namespace Sys2Proof.Machine

section
variable {s : State} {r : Request}

/-- R132: CAP's answer in ARMED with a mask. -/
theorem captureNow_armed (armed : s.cap.state = .armed) (mask : (s.cap.map[(12 : SourceId)]).mask ≠ 0) :
    captureNow r s = if 16 ≤ s.cap.entries.length then plain (dropTrigger (manualTrigger r s.cpt.observed) s) .full
      else plain (takeTrigger (manualTrigger r s.cpt.observed) true none s) .done := by
  unfold captureNow
  rw [armed]
  exact if_neg (mt maskEmpty_iff.1 mask)

theorem takeTrigger_mga (t : Trigger) (record : Bool) (zero : Option AxisId) (s : State) :
    (takeTrigger t record zero s).mga = s.mga := by
  have kept := takeTrigger_outside t record zero s
  simp only [OutsideCapture] at kept
  obtain ⟨-, -, -, -, -, mga, -⟩ := kept
  exact mga

theorem exec_manualCapture_taken (executing : Executing s .manualCapture r) (armed : s.cap.state = .armed)
    (mask : (s.cap.map[(12 : SourceId)]).mask ≠ 0) (room : s.cap.entries.length < 16) : exec .manualCapture s
      = .next { takeTrigger (manualTrigger r s.cpt.observed) true none s with mga := answered s.mga r .done [] } := by
  have answer := (captureNow_armed (r := r) armed mask).trans (if_neg (Nat.not_le.2 room))
  rw [← takeTrigger_mga (manualTrigger r s.cpt.observed) true none s]
  exact serve_executing_accepted executing answer rfl

/-- R137: the mask of one raw axis names no composite. -/
theorem axisBit_composite (a : AxisId) (c : Fin 4) : (1#10 <<< a.val).getLsbD (6 + c.val) = false := by
  revert a c
  decide

theorem axisBit_axis (a b : AxisId) : (1#10 <<< a.val).getLsbD b.val = true ↔ b = a := by
  revert a b
  decide

theorem axisBit_ne_zero (a : AxisId) : 1#10 <<< a.val ≠ 0 := by
  revert a
  decide

end

/-- Settles O45: a trigger that is taken makes the entry of R137, which for one raw axis waits at the end of the list. -/
theorem manualCaptureTakesATrigger : Obligations.ManualCaptureTakesATrigger := by
  unfold Obligations.ManualCaptureTakesATrigger
  intro s r executing time refused
  have taken := exec_manualCapture_taken executing
  refine ⟨fun stopped => ?_, fun halted => ?_, fun armed empty => ?_, fun armed mask full => ?_, taken,
    fun a armed room mask counting ring newer notOlder inTime => ?_⟩
  · have answer : captureNow r s = plain s .refusedState := by
      unfold captureNow
      rw [stopped]
    exact serve_executing_refused executing answer rfl
  · have answer : captureNow r s = plain (s.report .cap .triggersDropped) .refusedState := by
      unfold captureNow
      rw [halted]
    have bus : refusalReported (s.report .cap .triggersDropped).bus = { s.bus with
        reports := s.bus.reports ++ [⟨.cap, .triggersDropped, 0⟩, ⟨.mga, .managementRefusals, 0⟩] } := by
      rw [List.append_cons]
      rfl
    refine congrArg Host.Outcome.next ?_
    rw [serve_executing executing, answer, place_plain_of_refuses executing.2.2 rfl, bus]
    rfl
  · have answer : captureNow r s = plain s .refusedState := by
      unfold captureNow
      rw [armed]
      exact if_pos (maskEmpty_iff.2 empty)
    exact serve_executing_refused executing answer rfl
  · have answer := (captureNow_armed (r := r) armed mask).trans (if_pos full)
    rw [dropTrigger_eq] at answer
    exact serve_executing_accepted executing answer rfl
  · have named : triggerMask s (manualTrigger r s.cpt.observed) true = 1#10 <<< a.val := mask
    have lone : newEntry s (manualTrigger r s.cpt.observed) true none
        = loneEntry s (manualTrigger r s.cpt.observed) true none a :=
      newEntry_lone (copiedWindowAxis_of_other nofun) (fun c => by rw [named, axisBit_composite])
        fun b => by rw [named, axisBit_axis]; simp
    have waits := testField_of_later counting newer notOlder
    rw [taken armed (mask ▸ axisBit_ne_zero a) room, takeTrigger_lone room lone waits inTime]
    rw [loneEntry, named]
    rfl

end Sys2Proof.Machine
end

section
/-! SUPPORT. The completion query to FMN (R194), the record of a completed entry (R144, R145, R153), and the edge of one
bracketed axis (R138 to R140). -/

namespace Sys2Proof.Machine

/-! ### The tainting raises taken -/

/-- R194: the raises of the list that FMN takes for the query: each tainting one, and what its block made before it. -/
def takenTaints (f : Fmn) : List RaiseMsg → List RaiseMsg
  | [] => []
  | m :: rest => if beforeTaint f m rest then m :: takenTaints f rest else takenTaints f rest

theorem takenTaints_of_routes {f g : Fmn} (routes : g.routes = f.routes) (l : List RaiseMsg) :
    takenTaints g l = takenTaints f l := by
  induction l with
  | nil => rfl
  | cons m rest ih =>
    have before : beforeTaint g m rest = beforeTaint f m rest := by simp only [beforeTaint, taints, routes]
    rw [takenTaints, takenTaints, before, ih]

theorem takeRaises_flag (m : RaiseMsg) (times : Nat) (s : State) (i : Fin 23) :
    (takeRaises m times s).fmn.flags[i] = true ↔ s.fmn.flags[i] = true ∨ m.kind.index = i := by
  rw [takeRaises_eq]
  have entry : (s.fmn.flags.set m.kind.index.val true m.kind.index.isLt)[i]
      = if m.kind.index.val = i.val then true else s.fmn.flags[i] := Vector.getElem_set m.kind.index.isLt i.isLt
  rw [entry, Fin.ext_iff]
  split <;> simp_all

theorem takeRaises_routes (m : RaiseMsg) (times : Nat) (s : State) :
    (takeRaises m times s).fmn.routes = s.fmn.routes := by
  rw [takeRaises_eq]

theorem takeTaints_flag (l : List RaiseMsg) (s : State) (i : Fin 23) : (takeTaints l s).1.fmn.flags[i] = true
    ↔ s.fmn.flags[i] = true ∨ ∃ x ∈ takenTaints s.fmn l, x.kind.index = i := by
  induction l generalizing s with
  | nil => simp [takeTaints, takenTaints]
  | cons m rest ih =>
    unfold takeTaints takenTaints
    split
    · rw [ih, takenTaints_of_routes (takeRaises_routes ..), takeRaises_flag, or_assoc, List.exists_mem_cons_iff]
    · exact ih s

theorem mem_takenTaints_of_taints {f : Fmn} {l : List RaiseMsg} {x : RaiseMsg} (mem : x ∈ l)
    (tainting : taints f x = true) : x ∈ takenTaints f l := by
  induction l with
  | nil => cases mem
  | cons m rest ih =>
    unfold takenTaints
    obtain rfl | behind := List.mem_cons.1 mem
    · have before : beforeTaint f x rest = true := by simp [beforeTaint, tainting]
      rw [if_pos before]
      exact List.mem_cons_self
    · split
      · exact List.mem_cons_of_mem m (ih behind)
      · exact ih behind

theorem of_mem_takenTaints {f : Fmn} {l : List RaiseMsg} {x : RaiseMsg} (mem : x ∈ takenTaints f l) :
    x ∈ l ∧ ∃ y ∈ l, taints f y = true ∧ x.source = y.source := by
  have widen {m : RaiseMsg} {rest : List RaiseMsg} :
      (x ∈ rest ∧ ∃ y ∈ rest, taints f y = true ∧ x.source = y.source) →
      x ∈ m :: rest ∧ ∃ y ∈ m :: rest, taints f y = true ∧ x.source = y.source :=
    fun ⟨mem, y, behind, found⟩ => ⟨List.mem_cons_of_mem m mem, y, List.mem_cons_of_mem m behind, found⟩
  induction l with
  | nil => cases mem
  | cons m rest ih =>
    unfold takenTaints at mem
    split at mem
    next before =>
      obtain rfl | behind := List.mem_cons.1 mem
      · refine ⟨List.mem_cons_self, ?_⟩
        simp only [beforeTaint, Bool.or_eq_true, List.any_eq_true, Bool.and_eq_true, beq_iff_eq] at before
        obtain itself | ⟨y, behind, source, tainting⟩ := before
        · exact ⟨x, List.mem_cons_self, itself, rfl⟩
        · exact ⟨y, List.mem_cons_of_mem x behind, tainting, source.symm⟩
      · exact widen (ih behind)
    next => exact widen (ih mem)

/-! ### The query -/

section
variable {s : State}

theorem afterQuery_flag (i : Fin 23) : s.afterQuery.fmn.flags[i] = true
    ↔ s.fmn.flags[i] = true ∨ ∃ x ∈ takenTaints s.fmn s.bus.raises, x.kind.index = i :=
  takeTaints_flag s.bus.raises s i

theorem afterQuery_state (s : State) : s.afterQuery = { s with
    freeIndex := s.freeIndex + 1
    fmn := { s.fmn with
      flags := s.afterQuery.fmn.flags, counts := s.afterQuery.fmn.counts, first := s.afterQuery.fmn.first }
    bus := { s.bus with halts := s.afterQuery.bus.halts, raises := s.afterQuery.bus.raises } } := by
  unfold State.afterQuery
  rw [State.taintsTaken_state]

theorem afterQuery_sublist (s : State) : s.afterQuery.bus.raises.Sublist s.bus.raises :=
  takeTaints_sublist s.bus.raises s

theorem afterQuery_left {x : RaiseMsg} (mem : x ∈ s.afterQuery.bus.raises) : taints s.fmn x = false :=
  takeTaints_left s.bus.raises s x mem

/-- R194: with one tainting raise on its way that one is taken. -/
theorem afterQuery_single {x : RaiseMsg} (only : s.bus.raises = [x]) (tainting : taints s.fmn x = true) :
    s.afterQuery = { s with
      freeIndex := s.freeIndex + 1
      fmn := (takeRaises x (x.more + 1) s).fmn
      bus := { s.bus with raises := [], halts := (takeRaises x (x.more + 1) s).bus.halts } } := by
  have before : beforeTaint s.fmn x [] = true := by simp [beforeTaint, tainting]
  have taken : takeTaints s.bus.raises s = (takeRaises x (x.more + 1) s, []) := by
    rw [only, takeTaints, if_pos before]
    rfl
  unfold State.afterQuery State.taintsTaken
  rw [taken, takeRaises_eq]
  rfl

theorem taintFlagged_iff {g : Fmn} :
    taintFlagged g = true ↔ ∃ i : Fin 23, g.flags[i] = true ∧ (g.routes[i]).taint = true := by
  simp [taintFlagged]

/-- R194: after the query a tainting raise that was on its way has been taken. -/
theorem taintFlagged_afterQuery (h : ∃ x ∈ s.bus.raises, taints s.fmn x = true) :
    taintFlagged s.afterQuery.fmn = true := by
  obtain ⟨x, mem, tainting⟩ := h
  have routes : s.afterQuery.fmn.routes = s.fmn.routes := by rw [afterQuery_state]
  refine taintFlagged_iff.2 ⟨x.kind.index, ?_, ?_⟩
  · exact (afterQuery_flag _).2 (.inr ⟨x, mem_takenTaints_of_taints mem tainting, rfl⟩)
  · rw [routes]
    exact tainting

theorem afterQuery_untainted (h : ∀ x ∈ s.bus.raises, taints s.fmn x ≠ true) :
    s.afterQuery = { s with freeIndex := s.freeIndex + 1 } :=
  State.afterQuery_none s (List.any_eq_false.2 h)

end

/-! ### The record of a completed entry -/

section
variable {s : State} {e : Entry}

theorem completeEntry_unrecorded (none : e.record = false) : completeEntry s e = s := by
  rw [completeEntry, none]
  rfl

theorem completeEntry_recorded (record : e.record = true) : completeEntry s e =
    gateOrPass e (assemble (s.report .cap .entriesCompleted) e) (s.report .cap .entriesCompleted).afterQuery :=
  if_pos record

theorem gateOrPass_ungated {r : Record} (window : e.windowAxis = none) : gateOrPass e r s = handRecord r s := by
  rw [gateOrPass, window]

theorem gateOrPass_gated {r : Record} {x : Fin 10} {source : Fin 8} {status : FieldStatus} {v : Int} {stale : Bool}
    (window : e.windowAxis = some x) (edge : e.source.val = source.val)
    (value : e.field x = some (.value status v stale)) : gateOrPass e r s = gateRecord source v r s := by
  have found : finOf 8 e.source.val = some source := finOf_eq_some.2 edge
  rw [gateOrPass, window, found]
  simp only [value]

theorem gateOrPass_without {r : Record} {x : Fin 10} {source : Fin 8}
    (window : e.windowAxis = some x) (edge : e.source.val = source.val)
    (none : ∀ status v stale, e.field x ≠ some (.value status v stale)) :
    gateOrPass e r s = handRecord { r with ungated := true } s := by
  have found : finOf 8 e.source.val = some source := finOf_eq_some.2 edge
  rw [gateOrPass, window, found]
  dsimp only
  split
  next status v stale value => exact absurd value (none status v stale)
  next => rfl

end

/-! ### An edge of one bracketed axis -/

section
variable {s : State} {t : Trigger} {record : Bool} {a : AxisId}

/-- R139: only the field of axis a is tested. -/
theorem testedRaws_lone (u : State) : testedRaws u (loneEntry s t record none a)
    = testRaw a u (loneEntry s t record none a) := by
  have still (w : State × Entry) (b : AxisId) (resolved : w.2.raw[b] ≠ some .waiting) : testRaw b w.1 w.2 = w :=
    testRaw_not_waiting resolved w.1
  have others (l : List AxisId) (w : State × Entry) (resolved : ∀ b ∈ l, w.2.raw[b] ≠ some .waiting) :
      l.foldl (fun w b => testRaw b w.1 w.2) w = w := by
    induction l with
    | nil => rfl
    | cons b l ih =>
      rw [List.foldl_cons, still w b (resolved b List.mem_cons_self)]
      exact ih fun c mem => resolved c (List.mem_cons_of_mem b mem)
  obtain ⟨front, back, split⟩ := List.append_of_mem (mem_allAxes a)
  obtain ⟨notFront, notBack⟩ : a ∉ front ∧ a ∉ back := by
    have nodup := nodup_allAxes
    rw [split] at nodup
    exact ⟨fun mem => (List.nodup_append.1 nodup).2.2 a mem a List.mem_cons_self rfl,
      (List.nodup_cons.1 (List.nodup_append.1 nodup).2.1).1⟩
  have fronts (b : AxisId) (mem : b ∈ front) : (loneEntry s t record none a).raw[b] ≠ some .waiting :=
    fun waits => notFront (raw_loneEntry.1 waits ▸ mem)
  have backs (b : AxisId) (mem : b ∈ back) : (testRaw a u (loneEntry s t record none a)).2.raw[b] ≠ some .waiting := by
    have apart : a ≠ b := fun same => notBack (same ▸ mem)
    obtain same | ⟨f, same, -⟩ := testRaw_resolvedAt a u (loneEntry s t record none a)
    · rw [same]
      exact fun waits => apart (raw_loneEntry.1 waits).symm
    · rw [same, raw_resolve, if_neg apart]
      exact fun waits => apart (raw_loneEntry.1 waits).symm
  rw [testedRaws, split, List.foldl_append, others front _ fronts, List.foldl_cons, others back _ backs]

/-- R140: the entry of one raw axis with its field resolved. -/
def resolvedLone (s : State) (t : Trigger) (record : Bool) (a : AxisId) (f : Field) : Entry :=
  (loneEntry s t record none a).resolve a f

section
variable {f : Field}

theorem raw_resolvedLone (resolved : f ≠ .waiting) (b : AxisId) :
    (resolvedLone s t record a f).raw[b] ≠ some .waiting := by
  rw [resolvedLone, raw_resolve]
  split
  · simpa using resolved
  next apart => exact fun waits => apart (raw_loneEntry.1 waits).symm

theorem compositeFound_resolvedLone (c : Fin 4) : (resolvedLone s t record a f).compositeFound c = none := by
  simp [Entry.compositeFound, resolvedLone, Entry.resolve, loneEntry]

theorem settled_resolvedLone : (resolvedLone s t record a f).settled = resolvedLone s t record a f :=
  settled_of_unfound compositeFound_resolvedLone

theorem saturations_resolvedLone : (resolvedLone s t record a f).saturations = [] :=
  saturations_of_unfound compositeFound_resolvedLone

theorem complete_resolvedLone (resolved : f ≠ .waiting) : (resolvedLone s t record a f).complete = true := by
  refine (Entry.complete_iff _).2 ⟨raw_resolvedLone resolved, fun c => ?_⟩
  simp [resolvedLone, Entry.resolve, loneEntry]

/-- R141: nothing of such an entry is left to time out. -/
theorem afterTests_resolvedLone (resolved : f ≠ .waiting) (u : State) (passed : Bool) :
    afterTests u (resolvedLone s t record a f) passed = (u, resolvedLone s t record a f) := by
  have told : tellZeroTimeout u (resolvedLone s t record a f) = u := rfl
  have raises : timeoutRaises (resolvedLone s t record a f) allAxes = [] := by
    rw [timeoutRaises, List.filter_eq_nil_iff.2 fun b _ => by simpa using raw_resolvedLone resolved b]
    rfl
  have raw : (timedOutEntry (resolvedLone s t record a f)).raw = (resolvedLone s t record a f).raw :=
    Vector.ext fun b hb =>
      (Vector.getElem_map fieldTimedOut hb).trans (if_neg (raw_resolvedLone resolved ⟨b, hb⟩))
  have entry : timedOutEntry (resolvedLone s t record a f) = resolvedLone s t record a f := by
    calc timedOutEntry (resolvedLone s t record a f)
        = { resolvedLone s t record a f with raw := (timedOutEntry (resolvedLone s t record a f)).raw } := rfl
      _ = resolvedLone s t record a f := by rw [raw]
  unfold afterTests
  rw [told, raises, entry, saturations_resolvedLone, settled_resolvedLone, List.append_nil, State.raised_nil, ite_self]

end

/-- R138 to R140: the entry of one bracketed axis completes in the event that takes it. -/
theorem takeTrigger_bracketed {h0 h1 : HistEntry} (room : s.cap.entries.length < 16)
    (lone : newEntry s t record none = loneEntry s t record none a)
    (found : testField (s.axes[a]).ctx t.time = .bracket h0 h1) : takeTrigger t record none s =
    let count := interpolate h0 h1 t.time
    let sum := rawPosition s.axes[a] count (appliedOf s (s.axes[a]).settings.group)
    completeEntry ((triggerNoted s record).raised (saturationRaises a.val sum))
      (resolvedLone s t record a (.value (bracketStatus h0 h1) (positionOf s a count) (staleMark s a))) := by
  have tested := testRaw_bracket (raw_loneEntry.2 rfl) (s := triggerNoted s record) (e := loneEntry s t record none a)
    (h0 := h0) (h1 := h1) found
  have raws : testedRaws (triggerNoted s record) (loneEntry s t record none a)
      = ((triggerNoted s record).raised (saturationRaises a.val
          (rawPosition s.axes[a] (interpolate h0 h1 t.time) (appliedOf s (s.axes[a]).settings.group))),
        resolvedLone s t record a (.value (bracketStatus h0 h1) (positionOf s a (interpolate h0 h1 t.time))
          (staleMark s a))) := by
    rw [testedRaws_lone, tested, raiseSaturated_eq]
    rfl
  dsimp only
  rw [takeTrigger_room room, lone, testNew_eq, raws]
  dsimp only
  have resolved : Field.value (bracketStatus h0 h1) (positionOf s a (interpolate h0 h1 t.time)) (staleMark s a)
      ≠ .waiting := nofun
  rw [settled_resolvedLone, saturations_resolvedLone, State.raised_nil, afterTests_resolvedLone resolved, leaveOrJoin,
    if_pos (complete_resolvedLone resolved)]

end

/-! ### The record of one raw axis -/

theorem Entry.field_axis (e : Entry) (a : AxisId) (x : Fin 10) (axis : x.val = a.val) : e.field x = e.raw[a] := by
  have raw : x.val < 6 := axis ▸ a.isLt
  unfold Entry.field
  rw [dif_pos raw]
  simp [axis]

theorem maskAxes_axisBit (a : AxisId) : maskAxes (1#10 <<< a.val) = [⟨a.val, by omega⟩] := by
  revert a
  decide

theorem assemble_resolvedLone {s u : State} {t : Trigger} {a : AxisId} {status : FieldStatus} {position : Int}
    {stale : Bool} (mask : (s.cap.map[t.source]).mask = 1#10 <<< a.val) :
    assemble u (resolvedLone s t true a (.value status position stale)) =
      { kind := t.kind, source := t.source, polarity := t.polarity, zone := 255, time := t.time
        taint := taintAnswer u, ungated := false, envStale := stale, fields := [⟨a.val, status, position⟩] } := by
  have axes : maskAxes (resolvedLone s t true a (.value status position stale)).mask = [⟨a.val, by omega⟩] :=
    (congrArg maskAxes mask).trans (maskAxes_axisBit a)
  have field : (resolvedLone s t true a (.value status position stale)).field ⟨a.val, by omega⟩
      = some (.value status position stale) := by
    rw [Entry.field_axis _ a _ rfl, resolvedLone, raw_resolve, if_pos rfl]
  simp only [assemble, axes, List.any_cons, List.any_nil, Bool.or_false, List.map_cons, List.map_nil, fieldStale,
    axisEntryOf, field]
  rfl

theorem copiedWindowAxis_ungated {c : Cap} {t : Trigger} (gated : (c.map[t.source]).gated = false) :
    copiedWindowAxis c t = none :=
  if_neg fun h => Bool.false_ne_true (gated.symm.trans h.2)

/-- R145: the state in which the record of a bracketed edge is assembled; s is the state without the marker event. -/
def edgeCompleted (s : State) (a : AxisId) (sum : Int) : State :=
  ((triggerNoted s true).raised (saturationRaises a.val sum)).report .cap .entriesCompleted

theorem edgeCompleted_eq (s : State) (a : AxisId) (sum : Int) : edgeCompleted s a sum = { s with
    cap := { s.cap with nextId := s.cap.nextId + 1 }
    bus := { s.bus with
      reports := s.bus.reports ++ [⟨.cap, .triggersTaken, 0⟩, ⟨.cap, .entriesCompleted, 0⟩]
      raises := s.bus.raises ++ saturationRaises a.val sum } } := by
  rw [List.append_cons s.bus.reports]
  rfl

theorem taintAnswer_eq (s : State) : taintAnswer s = (taintFlagged s.fmn
    || (decide (∃ x ∈ s.bus.raises, taints s.fmn x = true) && Config.raiseTakenFirst s.freeIndex)) := by
  have tainting : s.bus.raises.any (taints s.fmn) = decide (∃ x ∈ s.bus.raises, taints s.fmn x = true) := by
    rw [Bool.eq_iff_iff, List.any_eq_true, decide_eq_true_iff]
  rw [taintAnswer, tainting]

/-- Settles O55: the edge of one bracketed axis completes at once, and the query takes the tainting raises. -/
theorem bracketedEdgesBecomeRecordsAtOnce : Obligations.BracketedEdgesBecomeRecordsAtOnce := by
  unfold Obligations.BracketedEdgesBecomeRecordsAtOnce
  refine ⟨fun s m rest a h0 h1 markers edge armed room => ?_, fun s e none => completeEntry_unrecorded none,
    fun s e record => ?_, fun s => ?_, fun g => taintFlagged_iff⟩
  · intro source map before beyond applied sum status raises onTheWay
    let t : Trigger := ⟨.edge, source, m.polarity, m.time⟩
    let taken : State := { s with bus := { s.bus with markers := rest } }
    have mask : (taken.cap.map[t.source]).mask = 1#10 <<< a.val := congrArg CapMapEntry.mask map
    have named : triggerMask taken t true = 1#10 <<< a.val := mask
    have lone : newEntry taken t true none = loneEntry taken t true none a :=
      newEntry_lone (copiedWindowAxis_ungated (congrArg CapMapEntry.gated map))
        (fun c => by rw [named, axisBit_composite]) fun b => by rw [named, axisBit_axis]; simp
    let d : Entry := resolvedLone taken t true a (.value status (positionOf s a (interpolate h0 h1 m.time)) (staleMark s a))
    let v : State := edgeCompleted taken a sum
    have event : exec .edgeTrigger s = .next (handRecord (assemble v d) v.afterQuery) := by
      have offered : offerOrdinary t taken = takeTrigger t true none taken :=
        offerOrdinary_armed (by rw [mask]; exact axisBit_ne_zero a) armed
      have bracketed := takeTrigger_bracketed (s := taken) room lone (testField_bracket before beyond)
      have recorded : completeEntry _ d = _ := completeEntry_recorded
        (s := (triggerNoted taken true).raised (saturationRaises a.val sum)) (e := d) rfl
      refine (exec_edgeTrigger markers edge).trans (congrArg Host.Outcome.next ?_)
      exact offered.trans (bracketed.trans (recorded.trans (gateOrPass_ungated rfl)))
    have way : v.bus.raises = raises := by
      have behind : v.bus.raises = s.bus.raises ++ saturationRaises a.val sum := rfl
      rw [behind, saturationRaises]
      by_cases fits : within48 sum = true
      · rw [if_pos fits, List.append_nil]
        exact (if_pos fits).symm
      · rw [if_neg fits]
        exact (if_neg fits).symm
    have tainting : (∃ x ∈ v.bus.raises, taints v.fmn x = true) ↔ onTheWay := by rw [way]; rfl
    have query := afterQuery_state v
    have reports : v.bus.reports = s.bus.reports ++ [⟨.cap, .triggersTaken, 0⟩, ⟨.cap, .entriesCompleted, 0⟩] :=
      congrArg (·.bus.reports) (edgeCompleted_eq taken a sum)
    refine ⟨_, event, congrArg State.cap query, ?_, ?_, fun untainted => ?_,
      fun tainted => ⟨?_, ?_, fun x mem => ?_⟩, ?_⟩
    · have records : v.afterQuery.bus.records = s.bus.records := congrArg (·.bus.records) query
      have position : positionOf s a (interpolate h0 h1 m.time) = max (-140737488355327) (min 140737488355327 sum) :=
        saturate_eq sum
      have stale : staleMark s a = match (s.axes[a]).settings.group with
          | some g => (s.scu.groups[g]).stale
          | none => false := by
        unfold staleMark
        cases (s.axes[a]).settings.group <;> rfl
      have taint : taintAnswer v = (taintFlagged s.fmn || (decide onTheWay && Config.raiseTakenFirst s.freeIndex)) := by
        rw [taintAnswer_eq, decide_eq_decide.2 tainting]
        rfl
      have record := assemble_resolvedLone (s := taken) (u := v) (t := t) (a := a) (status := status)
        (position := positionOf s a (interpolate h0 h1 m.time)) (stale := staleMark s a) mask
      refine (congrArg (· ++ [assemble v d]) records).trans (congrArg (fun r => s.bus.records ++ [r]) (record.trans ?_))
      rw [taint, stale, position] <;> rfl
    · exact (congrArg (·.bus.reports) query).trans reports
    · have still : v.afterQuery = { v with freeIndex := v.freeIndex + 1 } :=
        afterQuery_untainted fun x mem taints => untainted (tainting.1 ⟨x, mem, taints⟩)
      exact ⟨(congrArg (·.bus.raises) still).trans way, (congrArg State.fmn still :), congrArg (·.bus.halts) still⟩
    · exact taintFlagged_afterQuery (tainting.2 tainted)
    · exact way ▸ afterQuery_sublist v
    · exact afterQuery_left (s := v) mem
    · rw [query]
      rfl
  · intro named r noted u handed
    have completes := completeEntry_recorded (s := s) record
    refine ⟨fun window => ?_, fun x source window edge => ⟨fun status v stale value => ?_, fun none => ?_⟩⟩
    · rw [completes, gateOrPass_ungated window]
      rfl
    · rw [completes, gateOrPass_gated window edge value]
      rfl
    · rw [completes, gateOrPass_without window edge none]
      rfl
  · intro t tainting
    refine ⟨afterQuery_untainted, fun i flagged => afterQuery_flag i |>.2 (.inl flagged), fun i flagged => ?_,
      fun x mem tainted => afterQuery_flag _ |>.2 (.inr ⟨x, mem_takenTaints_of_taints mem tainted, rfl⟩),
      fun x only tainted => ?_, afterQuery_sublist s, fun x mem => Bool.eq_false_iff.1 (afterQuery_left mem),
      afterQuery_state s⟩
    · obtain before | ⟨x, mem, kind⟩ := (afterQuery_flag i).1 flagged
      · exact .inl before
      · have ⟨listed, behind⟩ := of_mem_takenTaints mem
        exact .inr ⟨x, listed, kind, behind⟩
    · refine (afterQuery_single only tainted).trans ?_
      rw [takeRaises_eq]

end Sys2Proof.Machine
end

section
/-! SUPPORT. A strong sample: unwrapped, counted, written into the ring and handed on (R61 to R71, R81). -/

namespace Sys2Proof.Machine

/-! ### Unwrapping -/

section
variable (st : AxisSettings) (c : AxisContext) (k pc : Nat)

/-- R65, R70: the sample is taken as a gap. -/
abbrev TakenAsGap : Prop := c.state = .lost ∨ st.gapLimit < k

/-- R64: the residual of the step against the prediction. -/
abbrev stepResidual : Int := wrap (pc - c.pcPrev - c.tracking * k)

/-- R64, R65: the increment. -/
def stepIncrement : Int :=
  if TakenAsGap st c k then wrap (pc - c.pcPrev) else c.tracking * k + stepResidual c k pc

/-- R64, R65: the new tracking increment. -/
def stepTracking : Int :=
  if TakenAsGap st c k then 0
  else max (-1048575) (min 1048575 ((2 * stepIncrement st c k pc + k) / (2 * (k : Int))))

/-- R64: the sample is a jump. -/
abbrev StepJumps : Prop := ¬TakenAsGap st c k ∧ (st.slipLimit : Int) < |stepResidual c k pc|

/-- R66: the sum lies outside the range of the count. -/
abbrev StepBeyond : Prop := within48 (c.count + stepIncrement st c k pc) = false

/-- R68: the axis moves too fast. -/
abbrev StepFast : Prop := (st.overspeedThreshold : Int) < |stepTracking st c k pc|

/-- R64 to R66, R81: what engine a raises for the step, in this order. -/
def stepRaises (a : AxisId) : List RaiseMsg :=
  (if TakenAsGap st c k then [⟨.axe a, .slipGap, a.val, BitVec.ofNat 32 (min k 4294967295), 0⟩] else [])
    ++ (if StepJumps st c k pc then [⟨.axe a, .slipJump, a.val, BitVec.ofInt 32 (stepResidual c k pc), 0⟩] else [])
    ++ (if StepBeyond st c k pc then
      [⟨.axe a, .positionSaturated, a.val, if 0 < c.count + stepIncrement st c k pc then 1 else 2, 0⟩] else [])
    ++ (if StepFast st c k pc ∧ c.overspeed = false then
      [⟨.axe a, .overspeed, a.val, BitVec.ofNat 32 (stepTracking st c k pc).natAbs, 0⟩] else [])

/-- The messages of an engine's errors. -/
def errorRaises (a : AxisId) (errors : List (ErrorKind × Int)) : List RaiseMsg :=
  errors.map fun e => ⟨.axe a, e.1, a.val, BitVec.ofInt 32 e.2, 0⟩

end

theorem raiseAll_eq (s : State) (a : AxisId) (errors : List (ErrorKind × Int)) :
    raiseAll s a errors = s.raised (errorRaises a errors) := by
  unfold raiseAll
  induction errors generalizing s with
  | nil => exact (State.raised_nil s).symm
  | cons e errors ih =>
    rw [List.foldl_cons, ih, raise_eq_raised, ← State.raised_append]
    rfl

section
variable {st : AxisSettings} {c : AxisContext} {t : Time} {pc period : Nat}

/-- R64, R65, R70: the step of a sample, as a gap or with prediction. -/
def stepOf (st : AxisSettings) (c : AxisContext) (k pc : Nat) : Int × Int × Bool × List (ErrorKind × Int) :=
  if TakenAsGap st c k then gapStep c pc k else predictedStep st.slipLimit c pc k

theorem stepOf_eq (st : AxisSettings) (c : AxisContext) (k pc : Nat) : stepOf st c k pc =
    (stepIncrement st c k pc, stepTracking st c k pc, decide (TakenAsGap st c k ∨ StepJumps st c k pc),
      (if TakenAsGap st c k then [(.slipGap, ((min k 4294967295 : Nat) : Int))] else [])
        ++ if StepJumps st c k pc then [(.slipJump, stepResidual c k pc)] else []) := by
  unfold stepOf
  by_cases gap : TakenAsGap st c k
  · simp only [stepIncrement, stepTracking, StepJumps, gap, if_true, not_true, false_and, or_false, decide_true, if_false,
      List.append_nil]
    rfl
  · simp only [stepIncrement, stepTracking, StepJumps, gap, if_false, not_false_eq_true, true_and, false_or,
      List.nil_append, predictedStep, trackingLimit, clamp_eq (by decide : (-1048575 : Int) ≤ 1048575)]
    by_cases jump : (st.slipLimit : Int) < |stepResidual c k pc| <;> simp [jump]

/-- R64 to R66, R68, R70: the values of the unwrapped sample. -/
theorem unwrap_eq : unwrap st c t pc period =
    let k := headPeriods c.tAcc t period
    { delta := stepIncrement st c k pc
      count := saturate (c.count + stepIncrement st c k pc)
      tracking := stepTracking st c k pc
      slip := decide (TakenAsGap st c k ∨ StepJumps st c k pc ∨ StepBeyond st c k pc)
      overspeed := decide (StepFast st c k pc)
      raises := (unwrap st c t pc period).raises } := by
  have step : unwrap st c t pc period
      = applyStep st.overspeedThreshold c (stepOf st c (headPeriods c.tAcc t period) pc) := rfl
  have slip (k : Nat) : (decide (TakenAsGap st c k ∨ StepJumps st c k pc) || !within48 (c.count + stepIncrement st c k pc))
      = decide (TakenAsGap st c k ∨ StepJumps st c k pc ∨ StepBeyond st c k pc) := by
    have beyond (z : Int) : (!within48 z) = decide (within48 z = false) := by cases within48 z <;> rfl
    simp only [beyond, Bool.decide_or, Bool.or_assoc]
  rw [step, stepOf_eq]
  dsimp only
  rw [← slip]
  rfl

theorem errorRaises_unwrap (a : AxisId) :
    errorRaises a (unwrap st c t pc period).raises = stepRaises st c (headPeriods c.tAcc t period) pc a := by
  have step : unwrap st c t pc period
      = applyStep st.overspeedThreshold c (stepOf st c (headPeriods c.tAcc t period) pc) := rfl
  rw [step, stepOf_eq]
  generalize headPeriods c.tAcc t period = k
  have gap : errorRaises a (if TakenAsGap st c k then [(.slipGap, ((min k 4294967295 : Nat) : Int))] else [])
      = if TakenAsGap st c k then [⟨.axe a, .slipGap, a.val, BitVec.ofNat 32 (min k 4294967295), 0⟩] else [] := by
    rw [← BitVec.ofInt_natCast]
    split <;> rfl
  have jump : errorRaises a (if StepJumps st c k pc then [(.slipJump, stepResidual c k pc)] else [])
      = if StepJumps st c k pc then [⟨.axe a, .slipJump, a.val, BitVec.ofInt 32 (stepResidual c k pc), 0⟩] else [] := by
    split <;> rfl
  have beyond (sum : Int) : errorRaises a (if within48 sum then []
      else [(.positionSaturated, if 0 < sum then (1 : Int) else 2)])
      = if within48 sum = false then [⟨.axe a, .positionSaturated, a.val, if 0 < sum then 1 else 2, 0⟩] else [] := by
    cases within48 sum
    · by_cases positive : 0 < sum <;> simp [errorRaises, positive]
    · rfl
  have fast : errorRaises a (if decide (StepFast st c k pc) && !c.overspeed
      then [(.overspeed, |stepTracking st c k pc|)] else [])
      = if StepFast st c k pc ∧ c.overspeed = false then
        [⟨.axe a, .overspeed, a.val, BitVec.ofNat 32 (stepTracking st c k pc).natAbs, 0⟩] else [] := by
    rw [← BitVec.ofInt_natCast, ← Int.abs_eq_natAbs]
    by_cases quick : StepFast st c k pc <;> cases c.overspeed <;> simp [quick, errorRaises]
  have all (w x y z : List (ErrorKind × Int)) : errorRaises a (w ++ x ++ y ++ z)
      = errorRaises a w ++ errorRaises a x ++ errorRaises a y ++ errorRaises a z := by
    simp only [errorRaises, List.map_append]
  rw [stepRaises, ← gap, ← jump, ← beyond, ← fast, ← all]
  rfl

theorem stateAfterSample_eq (state : AxisState) (slip : Bool) : stateAfterSample state slip
    = if state = .lost ∨ (state = .referenced ∧ slip = true) then .slipped else state := by
  cases state <;> cases slip <;> rfl

end

/-! ### The state a strong sample leaves -/

section
variable {s : State} {a : AxisId} {m : SampleMsg} {pc : Nat}

/-- R42 to R45, R58, R60: the context once a strong sample is seen. -/
def strongSeen (x : Axis) (m : SampleMsg) : AxisContext :=
  let r := amplitude2 (stage1 x.settings m.c m.s)
  let decays := x.settings.decayInterval ≤ x.ctx.decay + 1
  { x.ctx with
    tSeen := m.time, seenMark := true, silenceRef := m.time, silenceMark := false, signal := r
    weak := x.ctx.weak && decide (r < x.settings.wHi * x.settings.wHi)
    decay := if decays then 0 else x.ctx.decay + 1, bucket := if decays then x.ctx.bucket - 1 else x.ctx.bucket }

theorem seenContext_strong (x : Axis) (m : SampleMsg) :
    seenContext x.settings x.ctx m (stage1 x.settings m.c m.s) false = strongSeen x m := by
  have weak : weakAfter x.settings x.ctx.weak false (stage1 x.settings m.c m.s)
      = (x.ctx.weak && decide (amplitude2 (stage1 x.settings m.c m.s) < x.settings.wHi * x.settings.wHi)) := by
    unfold weakAfter
    rw [if_neg Bool.false_ne_true]
    split
    next strong => rw [decide_eq_false (Nat.not_lt.2 strong), Bool.and_false]
    next low => rw [decide_eq_true (Nat.lt_of_not_le low), Bool.and_true]
  rw [seenContext_eq, weak]
  simp only [strongSeen, ← Nat.not_le, ite_not]
  rfl

/-- The state with another context of axis a. -/
def withContext (s : State) (a : AxisId) (c : AxisContext) : State :=
  { s with axes := s.axes.set a.val { s.axes[a] with ctx := c } a.isLt }

theorem modCtx_withContext (s : State) (a : AxisId) (c : AxisContext) (f : AxisContext → AxisContext) :
    (withContext s a c).modCtx a f = withContext s a (f c) := by
  have entry : (withContext s a c).axes[a] = { s.axes[a] with ctx := c } := Vector.getElem_set_self a.isLt
  have axes : modifyAt (withContext s a c).axes a (fun x => { x with ctx := f x.ctx })
      = s.axes.set a.val { s.axes[a] with ctx := f c } a.isLt := by
    unfold modifyAt
    rw [entry]
    exact Vector.set_set _ a.isLt
  exact congrArg (fun v => { s with axes := v }) axes

theorem axis_withContext (s : State) (a : AxisId) (c : AxisContext) :
    (withContext s a c).axes[a] = { s.axes[a] with ctx := c } := Vector.getElem_set_self a.isLt

theorem sampleSeen_strong (strong : seenWeak s.axes[a] m = false) :
    sampleSeen a m s = withContext s a (strongSeen s.axes[a] m) := by
  have raises : degradedRaises a s.axes[a] false = [] := rfl
  rw [sampleSeen, strong, raises, State.raised_nil, ← seenContext_strong]
  rfl

theorem afterAcceptance_eq (a : AxisId) (m : SampleMsg) (pc : Nat) (delta : Int) (s : State) :
    afterAcceptance a m pc delta s = offerToCalibration
      (swept (testRaw a) (s.report (.axe a) .samplesAccepted)) a (some (m.c, m.s, pc, delta)) := by
  rw [← sweepPending_eq_swept]
  rfl

theorem takeStrong_acquire {c : AxisContext} (acquire : c.state = .acquire) : takeStrong a m pc (withContext s a c) =
    afterAcceptance a m pc 0 (withContext s a (startCount c m pc)) := by
  have state : ((withContext s a c).axes[a]).ctx.state = .acquire := by rw [axis_withContext]; exact acquire
  refine (if_pos state).trans ?_
  rw [modCtx_withContext]

theorem takeStrong_started {c : AxisContext} (started : c.state ≠ .acquire) :
    takeStrong a m pc (withContext s a c) =
      let w := unwrap (s.axes[a]).settings c m.time pc m.period
      let u := (withContext s a (acceptSample c m pc w)).raised (errorRaises a w.raises)
      afterAcceptance a m pc w.delta (if w.slip then u.report (.axe a) .slips else u) := by
  have state : ¬((withContext s a c).axes[a]).ctx.state = .acquire := by rw [axis_withContext]; exact started
  dsimp only
  refine (if_neg state).trans ?_
  rw [axis_withContext, modCtx_withContext, raiseAll_eq]

/-- R69: the part once the engine of axis a has accepted a sample, before CAP examines its fields. -/
def sampleAccepted (s : State) (a : AxisId) (c : AxisContext) (raises : List RaiseMsg) (reports : List ReportMsg) :
    State :=
  { s with
    axes := s.axes.set a.val { s.axes[a] with ctx := c } a.isLt
    bus := { s.bus with
      raises := s.bus.raises ++ raises
      reports := s.bus.reports ++ reports ++ [⟨.axe a, .samplesAccepted, 0⟩] } }

theorem sampleAccepted_started (s : State) (a : AxisId) (c : AxisContext) (raises : List RaiseMsg) (slip : Bool) :
    (if slip then ((withContext s a c).raised raises).report (.axe a) .slips
      else (withContext s a c).raised raises).report (.axe a) .samplesAccepted
    = sampleAccepted s a c raises (if slip then [⟨.axe a, .slips, 0⟩] else []) := by
  cases slip with
  | true => rfl
  | false =>
    simp only [sampleAccepted, Bool.false_eq_true, if_false, List.append_nil]
    rfl

theorem sampleAccepted_acquire (s : State) (a : AxisId) (c : AxisContext) :
    (withContext s a c).report (.axe a) .samplesAccepted = sampleAccepted s a c [] [] := by
  simp only [sampleAccepted, List.append_nil]
  rfl

section
variable (x : Axis) (m : SampleMsg) (pc : Nat)

/-- R63: the head periods of the sample m. -/
abbrev sampleStep : Nat := headPeriods x.ctx.tAcc m.time m.period

/-- R65, R66, R70: the sample is slip-flagged. -/
def stepSlips : Bool :=
  decide (TakenAsGap x.settings x.ctx (sampleStep x m) ∨ StepJumps x.settings x.ctx (sampleStep x m) pc
    ∨ StepBeyond x.settings x.ctx (sampleStep x m) pc)

/-- R67, R70: the state the sample leaves. -/
def stepState : AxisState :=
  if x.ctx.state = .lost ∨ (x.ctx.state = .referenced ∧ stepSlips x m pc = true) then .slipped else x.ctx.state

/-- R66: the count the sample leaves. -/
def stepCount : Int :=
  max (-140737488355327) (min 140737488355327 (x.ctx.count + stepIncrement x.settings x.ctx (sampleStep x m) pc))

/-- R64 to R71: the context of a started axis once a strong sample is accepted. -/
def strongContext : AxisContext :=
  { strongSeen x m with
    pcPrev := pc, tAcc := m.time, lastC := m.c, lastS := m.s
    state := stepState x m pc, count := stepCount x m pc
    tracking := stepTracking x.settings x.ctx (sampleStep x m) pc
    overspeed := decide (StepFast x.settings x.ctx (sampleStep x m) pc)
    ring := pushRing x.ctx.ring ⟨m.time, stepCount x m pc, stepSlips x m pc, decide (stepState x m pc = .referenced)⟩ }

theorem unwrap_strongSeen : unwrap x.settings (strongSeen x m) m.time pc m.period
    = unwrap x.settings x.ctx m.time pc m.period := rfl

theorem acceptSample_strong : acceptSample (strongSeen x m) m pc (unwrap x.settings x.ctx m.time pc m.period)
    = strongContext x m pc := by
  have state : stateAfterSample (strongSeen x m).state (stepSlips x m pc) = stepState x m pc := stateAfterSample_eq ..
  have count : saturate (x.ctx.count + stepIncrement x.settings x.ctx (sampleStep x m) pc) = stepCount x m pc :=
    saturate_eq _
  rw [unwrap_eq]
  dsimp only [acceptSample]
  rw [count, ← stepSlips, state]
  rfl

end

section
variable {s : State} {a : AxisId} {m : SampleMsg}

theorem takeSeen_strong (strong : seenWeak s.axes[a] m = false) : takeSeen a m s = takeStrong a m
    (phaseOf (s.axes[a]).nonlinear (stage1 (s.axes[a]).settings m.c m.s))
    (withContext s a (strongSeen s.axes[a] m)) := by
  rw [takeSeen_eq, strong, if_neg Bool.false_ne_true, sampleSeen_strong strong]

theorem takeStrong_seen_acquire {pc : Nat} (acquire : (s.axes[a]).ctx.state = .acquire) :
    takeStrong a m pc (withContext s a (strongSeen s.axes[a] m)) =
      offerToCalibration (swept (testRaw a) (sampleAccepted s a (startCount (strongSeen s.axes[a] m) m pc) [] [])) a
        (some (m.c, m.s, pc, 0)) := by
  have state : (strongSeen s.axes[a] m).state = .acquire := acquire
  rw [takeStrong_acquire state, afterAcceptance_eq, sampleAccepted_acquire]

theorem takeStrong_seen_started {pc : Nat} (started : (s.axes[a]).ctx.state ≠ .acquire) :
    takeStrong a m pc (withContext s a (strongSeen s.axes[a] m)) =
      offerToCalibration (swept (testRaw a) (sampleAccepted s a (strongContext s.axes[a] m pc)
          (stepRaises (s.axes[a]).settings (s.axes[a]).ctx (sampleStep s.axes[a] m) pc a)
          (if stepSlips s.axes[a] m pc then [⟨.axe a, .slips, 0⟩] else []))) a
        (some (m.c, m.s, pc, stepIncrement (s.axes[a]).settings (s.axes[a]).ctx (sampleStep s.axes[a] m) pc)) := by
  have state : (strongSeen s.axes[a] m).state ≠ .acquire := started
  have delta := congrArg Unwrapped.delta
    (unwrap_eq (st := (s.axes[a]).settings) (c := (s.axes[a]).ctx) (t := m.time) (pc := pc) (period := m.period))
  have slip := congrArg Unwrapped.slip
    (unwrap_eq (st := (s.axes[a]).settings) (c := (s.axes[a]).ctx) (t := m.time) (pc := pc) (period := m.period))
  dsimp only at delta slip
  rw [takeStrong_started state]
  dsimp only
  rw [unwrap_strongSeen, acceptSample_strong, errorRaises_unwrap, afterAcceptance_eq, sampleAccepted_started, delta, slip]
  rfl

end

end

/-! ### A sample that no field and no calibration waits for -/

/-- R144: work that leaves every listed entry as it is leaves the list as it is. -/
theorem swept_idle {work : State → Entry → State × Entry} {s : State}
    (idle : ∀ u, ∀ e ∈ s.cap.entries, work u e = (u, e)) (unresolved : s.entriesUnresolved) : swept work s = s := by
  have fold (l : List Entry) (listed : ∀ e ∈ l, e ∈ s.cap.entries) (u : State) (kept : List Entry) :
      l.foldl (fun (x : State × List Entry) e =>
        let w := work x.1 e
        let v := w.1.raised w.2.saturations
        if w.2.settled.complete then (completeEntry v w.2.settled, x.2) else (v, x.2 ++ [w.2.settled])) (u, kept)
      = (u, kept ++ l) := by
    induction l generalizing kept with
    | nil => simp
    | cons e l ih =>
      have still := unresolved e (listed e List.mem_cons_self)
      rw [List.foldl_cons]
      dsimp only at ih ⊢
      rw [idle u e (listed e List.mem_cons_self)]
      dsimp only
      rw [settled_of_unresolved still, saturations_of_unresolved still, State.raised_nil,
        if_neg (by simp [incomplete_of_unresolved still]), ih fun d mem => listed d (List.mem_cons_of_mem e mem)]
      simp
  rw [swept, fold _ (fun e mem => mem)]
  rfl

theorem swept_testRaw_idle {s : State} {a : AxisId} (waiting : ∀ e ∈ s.cap.entries, e.raw[a] ≠ some .waiting)
    (unresolved : s.entriesUnresolved) : swept (testRaw a) s = s :=
  swept_idle (fun u e mem => testRaw_not_waiting (waiting e mem) u) unresolved

theorem offerToCalibration_idle {s : State} {a : AxisId} (idle : (s.axes[a]).cal.outcome ≠ .running)
    (strong : Option (Int × Int × Nat × Int)) : offerToCalibration s a strong = s :=
  if_pos idle

section
variable {s : State} {a : AxisId} {m : SampleMsg} {rest : List SampleMsg}

/-- The state with the oldest sample of axis a taken. -/
def samplePopped (s : State) (a : AxisId) (rest : List SampleMsg) : State :=
  { s with bus := { s.bus with samples := s.bus.samples.set a.val rest a.isLt } }

theorem exec_sampleArrival_strong (arrives : Arrives s a m rest) (started : (s.axes[a]).ctx.state ≠ .off)
    (fresh : (s.axes[a]).ctx.seenMark = false ∨ later m.time (s.axes[a]).ctx.tSeen = true)
    (strong : seenWeak s.axes[a] m = false) : exec (.sampleArrival a) s
      = .next (takeStrong a m (phaseOf (s.axes[a]).nonlinear (stage1 (s.axes[a]).settings m.c m.s))
        (withContext (samplePopped s a rest) a (strongSeen s.axes[a] m))) := by
  have seen := takeArrival_seen (s := samplePopped s a rest) started fresh
  exact (exec_sampleArrival_eq arrives).trans
    (congrArg Host.Outcome.next (seen.trans (takeSeen_strong (s := samplePopped s a rest) strong)))

end

/-- Settles O49: the step of R63 to R66 by gap or with prediction, its raises in order, and CAP and the calibration after
it. -/
theorem strongSamplesMoveTheCount : Obligations.StrongSamplesMoveTheCount := by
  unfold Obligations.StrongSamplesMoveTheCount
  refine ⟨fun s a m rest arrives => ?_, fun s a m rest arrives => ?_⟩
  · intro x c uv pc counting fresh strong idle waiting unresolved elapsed k near gap e
    obtain ⟨started, other, found⟩ := AxisContext.counting_iff.1 counting
    let t : State := sampleAccepted (samplePopped s a rest) a (strongContext x m pc) (stepRaises x.settings c k pc a)
      (if stepSlips x m pc then [⟨.axe a, .slips, 0⟩] else [])
    have axis : t.axes[a] = { x with ctx := strongContext x m pc } := Vector.getElem_set_self a.isLt
    have event : exec (.sampleArrival a) s = .next t := by
      have accepted := takeStrong_seen_started (s := samplePopped s a rest) (a := a) (m := m) (pc := pc) other
      refine (exec_sampleArrival_strong arrives started fresh strong).trans (congrArg Host.Outcome.next ?_)
      have idleStill : (t.axes[a]).cal.outcome ≠ .running := by rw [axis]; exact idle
      refine accepted.trans ?_
      change offerToCalibration (swept (testRaw a) t) a _ = t
      rw [swept_testRaw_idle (s := t) waiting unresolved, offerToCalibration_idle idleStill]
    have gaps : TakenAsGap x.settings c k ↔ gap := or_iff_right found
    have increment : stepIncrement x.settings c k pc = if gap then near (pc - c.pcPrev) else c.tracking * k + e :=
      if_congr gaps rfl rfl
    refine ⟨t, event, stepIncrement x.settings c k pc, stepSlips x m pc, ?_⟩
    rw [axis]
    have jumps : stepSlips x m pc = true ↔ TakenAsGap x.settings c k ∨ StepJumps x.settings c k pc
        ∨ StepBeyond x.settings c k pc := decide_eq_true_iff
    have state : stepState x m pc = if stepSlips x m pc = true ∧ c.state = .referenced then .slipped else c.state := by
      unfold stepState
      refine if_congr ?_ rfl rfl
      rw [or_iff_right found, and_comm]
    refine ⟨fun isGap => ⟨increment.trans (if_pos isGap), jumps.2 (.inl (gaps.2 isGap)), if_pos (gaps.2 isGap)⟩,
      fun noGap => ⟨increment.trans (if_neg noGap), ?_, if_neg (mt gaps.1 noGap)⟩, rfl, rfl, rfl, rfl, state, rfl,
      rfl, rfl, rfl, fun b apart => ?_, rfl⟩
    · have noJump : StepJumps x.settings c k pc ↔ (x.settings.slipLimit : Int) < |e| :=
        and_iff_right (mt gaps.1 noGap)
      rw [jumps, noJump, or_iff_right (mt gaps.1 noGap)]
    · exact Vector.getElem_set_ne a.isLt b.isLt fun same => apart (Fin.ext same.symm)
  · intro x c uv pc started fresh strong r decays push seen accepted goesOn
    have event := exec_sampleArrival_strong arrives started fresh strong
    refine ⟨fun acquire => ?_, fun other => ?_⟩
    · exact event.trans (congrArg Host.Outcome.next (takeStrong_seen_acquire (s := samplePopped s a rest) acquire))
    · intro k near gap e delta tracking jump sum beyond slip state fast count raise
      exact event.trans (congrArg Host.Outcome.next (takeStrong_seen_started (s := samplePopped s a rest) other))

end Sys2Proof.Machine
end
